-- ==== Sys2Proof/Word.lean ====
section
/-! DEFINITION. The word types of the Cresta transmit core: bytes, nibbles, command words (spec R6, R7, R70). -/

namespace Sys2Proof

/-- A byte quantity of CTX: 8 bits, unsigned, every operation truncated to 8 bits (R6). -/
abbrev Byte := BitVec 8

/-- Half a byte: one BCD digit or one sign marker (R56, R146). -/
abbrev Nibble := BitVec 4

/-- A command word as presented on `cmd_word`, all 32 bits in parallel (R57, R70). -/
abbrev Word := BitVec 32

end Sys2Proof
end

