-- ==== Sys2Proof/Syntax.lean ====
section
/-! DEFINITION. The operations of CTX, one constructor for each row of spec/opcode_table.json (R76, R79). -/

namespace Sys2Proof

/-- The commands of the host interface (R76), the nine internal operations of the datapath (R79) and the
sequencer's own step. Operands have the widths of the fields that carry them (R72, R73, R74, R90, R91, R142). -/
inductive Instr where
  /-- NOP (R161): format N. -/
  | nop
  /-- CONFIG (R162): format C, logical channel and random id. -/
  | config (chan : BitVec 3) (rid : BitVec 5)
  /-- SEND (R163): format S, temperature in tenths of a degree, humidity in percent, battery ok. -/
  | send (temp : BitVec 11) (hum : BitVec 7) (batt : Bool)
  /-- CLRERR (R164): format N. -/
  | clrerr
  /-- OBSCURE (R90): internal, byte to byte. -/
  | obscure (b : Byte)
  /-- MIX (R91): internal, byte to byte. -/
  | mix (b : Byte)
  /-- FRAME_BUILD (R100): internal, on FRM in place. -/
  | frameBuild
  /-- REPEAT_START (R111): internal, the repetition that starts. -/
  | repeatStart (r : BitVec 2)
  /-- BYTE_SERIALIZE (R120): internal, FRM[BIDX] to 18 line slots. -/
  | byteSerialize
  /-- CHANNEL_REMAP (R142): internal, logical channel to wire channel. -/
  | channelRemap (ch : BitVec 3)
  /-- TEMP_ENCODE (R147): internal, TEMP to RAW[4] and RAW[5]. -/
  | tempEncode (temp : BitVec 11)
  /-- HUM_ENCODE (R148): internal, HUM to RAW[6]. -/
  | humEncode (hum : BitVec 7)
  /-- PAYLOAD_ENCODE (R151): internal, a reading and CFG to RAW. -/
  | payloadEncode (temp : BitVec 11) (hum : BitVec 7) (batt : Bool)
  /-- SEQ_TICK (R165): what a `Tick` event does. -/
  | seqTick
  deriving DecidableEq, Repr

end Sys2Proof
end

