-- ==== Sys2Proof/WellFormed.lean ====
section
/-! DEFINITION. The check on an instruction as syntax. A command's operands fill their fields exactly, so every
command is well-formed, the illegal but encodable operands of R75 included; an internal operation is well-formed
when its operands lie in the range its rule gives. -/

namespace Sys2Proof

/-- Does each operand lie where the operation's rule takes it: a command of R72 and R73 always, `r` in 0..2 (R111),
`ch` in 1..5 (R142), TEMP in -999..999 (R147), HUM in 0..99 (R148)? -/
def wellFormed : Instr → Bool
  | .nop => true
  | .config _ _ => true
  | .send _ _ _ => true
  | .clrerr => true
  | .obscure _ => true
  | .mix _ => true
  | .frameBuild => true
  | .repeatStart r => decide (r.toNat < 3)
  | .byteSerialize => true
  | .channelRemap ch => decide (1 ≤ ch.toNat ∧ ch.toNat ≤ 5)
  | .tempEncode t => decide (t.toInt.natAbs < 1000)
  | .humEncode h => decide (h.toNat < 100)
  | .payloadEncode t h _ => decide (t.toInt.natAbs < 1000 ∧ h.toNat < 100)
  | .seqTick => true

/-- Is the operation a command, that is, one the host can present as a word (R76)? The others are internal
operations or the tick event, which have no command word (R79). -/
def isCommand : Instr → Bool
  | .nop => true
  | .config _ _ => true
  | .send _ _ _ => true
  | .clrerr => true
  | .obscure _ => false
  | .mix _ => false
  | .frameBuild => false
  | .repeatStart _ => false
  | .byteSerialize => false
  | .channelRemap _ => false
  | .tempEncode _ => false
  | .humEncode _ => false
  | .payloadEncode _ _ _ => false
  | .seqTick => false

end Sys2Proof
end

