-- ==== Sys2Proof/Decode.lean ====
section
/-! DEFINITION. Decoding a command word (R77), encoding one (R71 to R73, R80), and the assembler's operand checks
(R80). -/

namespace Sys2Proof

/-- The two decode results that are no operation (R77). Dispatch turns them into command errors of cause 1 and
cause 2 (R160). -/
inductive DecodeError where
  /-- `w[31:28]` is 0x4 to 0xF. -/
  | reservedOp
  /-- A reserved bit of a defined OP is 1. -/
  | reservedBits
  deriving DecidableEq, Repr

/-- `OP = w[31:28]` (R70). -/
def opField (w : Word) : BitVec 4 := w.extractLsb' 28 4

/-- `w[7:5]` of format C (R72). -/
def chanField (w : Word) : BitVec 3 := w.extractLsb' 5 3

/-- `w[4:0]` of format C (R72). -/
def ridField (w : Word) : BitVec 5 := w.extractLsb' 0 5

/-- `w[10:0]` of format S (R73). -/
def tempField (w : Word) : BitVec 11 := w.extractLsb' 0 11

/-- `w[17:11]` of format S (R73). -/
def humField (w : Word) : BitVec 7 := w.extractLsb' 11 7

/-- `w[18]` of format S (R73): 1 is battery ok. -/
def battField (w : Word) : Bool := w.getLsbD 18

/-- The decoder of R77, total on all 2^32 words and decided in that rule's order. -/
def decode (w : Word) : Except DecodeError Instr :=
  if 4 ≤ (opField w).toNat then .error .reservedOp
  else if opField w = 0x0#4 then
    if w.extractLsb' 0 28 ≠ 0#28 then .error .reservedBits else .ok .nop
  else if opField w = 0x3#4 then
    if w.extractLsb' 0 28 ≠ 0#28 then .error .reservedBits else .ok .clrerr
  else if opField w = 0x1#4 then
    if w.extractLsb' 8 20 ≠ 0#20 then .error .reservedBits
    else .ok (.config (chanField w) (ridField w))
  else
    if w.extractLsb' 19 9 ≠ 0#9 then .error .reservedBits
    else .ok (.send (tempField w) (humField w) (battField w))

/-- The word of a command: the fields of R71, R72 and R73 side by side, the more significant one first. Internal
operations and the tick event have no word (R79). -/
def encode : Instr → Option Word
  | .nop => some (0x0#4 ++ 0#28)
  | .config chan rid => some (0x1#4 ++ 0#20 ++ chan ++ rid)
  | .send temp hum batt => some (0x2#4 ++ 0#9 ++ BitVec.ofBool batt ++ hum ++ temp)
  | .clrerr => some (0x3#4 ++ 0#28)
  | .obscure _ => none
  | .mix _ => none
  | .frameBuild => none
  | .repeatStart _ => none
  | .byteSerialize => none
  | .channelRemap _ => none
  | .tempEncode _ => none
  | .humEncode _ => none
  | .payloadEncode _ _ _ => none
  | .seqTick => none

/-- The command word that a table word of `nbits` bits stands for: the bits above `nbits` are 0. -/
def tableWord (nbits w : Nat) : Word := BitVec.ofNat 32 (w % 2 ^ nbits)

/-- The instruction the decoder reads from a word given as the opcode table numbers its bits. A command is one
32-bit word presented in parallel (R57, R70), so there is no byte order to lay out. -/
def decodeTableWord (nbits w : Nat) : Option Instr :=
  match decode (tableWord nbits w) with
  | .ok i => some i
  | .error _ => none

/-- One line of the assembler of R80, as abstract syntax. -/
inductive AsmLine where
  /-- `NOP` -/
  | nop
  /-- `CONFIG ch=<0..7>, id=<0..31>` -/
  | config (ch id : Nat)
  /-- `SEND temp=<-1024..1023>, hum=<0..127>, batt=<ok|low>` -/
  | send (temp : Int) (hum : Nat) (battOk : Bool)
  /-- `CLRERR` -/
  | clrerr
  /-- `.word <32-bit value>` -/
  | word (v : Nat)
  deriving DecidableEq, Repr

/-- The assembler of R80: it rejects an operand that does not fit its field and accepts one that fits, legal or
not. -/
def assemble : AsmLine → Option Word
  | .nop => encode .nop
  | .config ch id =>
    if ch < 8 ∧ id < 32 then encode (.config (BitVec.ofNat 3 ch) (BitVec.ofNat 5 id)) else none
  | .send temp hum battOk =>
    if -1024 ≤ temp ∧ temp ≤ 1023 ∧ hum < 128 then
      encode (.send (BitVec.ofInt 11 temp) (BitVec.ofNat 7 hum) battOk)
    else none
  | .clrerr => encode .clrerr
  | .word v => if v < 2 ^ 32 then some (BitVec.ofNat 32 v) else none

/-- The text of an assembler line (R80), values in decimal. -/
def renderLine : AsmLine → String
  | .nop => "NOP"
  | .config ch id => "CONFIG ch=" ++ toString ch ++ ", id=" ++ toString id
  | .send temp hum battOk =>
    "SEND temp=" ++ toString temp ++ ", hum=" ++ toString hum ++ ", batt="
      ++ (if battOk then "ok" else "low")
  | .clrerr => "CLRERR"
  | .word v => ".word " ++ toString v

end Sys2Proof
end

