-- ==== Sys2Proof/Config.lean ====
section
/-! DEFINITION. The configuration record of R5 (its value for this hardware is `Machine.ctx`, in
Machine/Params.lean), and the free values of the model. -/

namespace Sys2Proof

/-- The implementation parameters of CTX, one field for each row of R5. A definition of the model takes the
record as an argument; `exec` fixes it to `Machine.ctx`. So a statement can be made for every body of MIX (R95). -/
structure Config where
  /-- `P_HALF_BIT`: ticks of one half-bit slot (R120). -/
  halfBit : Nat
  /-- `P_GAP`: ticks of the inter-frame gap (R112). -/
  gap : Nat
  /-- `P_TICK`: microseconds of one tick (R10). -/
  tickMicros : Nat
  /-- `P_REPEATS`: repetitions of one reading (R113). -/
  repeats : Nat
  /-- `P_MARKERS`: the repeat marker of each repetition (R110). -/
  markers : List Byte
  /-- `P_HEADER`: the device-type header, frame byte 0 (R141). -/
  header : Byte
  /-- `P_B2_BATT_OK`: byte 2 with the battery ok (R144). -/
  b2BattOk : Byte
  /-- `P_B2_BATT_LOW`: byte 2 with the battery low (R144). -/
  b2BattLow : Byte
  /-- `P_SIGN_NEG`: the sign marker of a negative temperature (R146). -/
  signNeg : Nibble
  /-- `P_SIGN_POS`: the sign marker of a non-negative temperature (R146). -/
  signPos : Nibble
  /-- `P_COMFORT`: the fixed trailing payload byte (R149). -/
  comfort : Byte
  /-- `P_MIX_K1`: the constant of stage 1 of MIX (R91). -/
  mixK1 : Byte
  /-- `P_MIX_K2`: the constant of stage 2 of MIX (R91). -/
  mixK2 : Byte
  /-- `P_MIX_FN`: the body of MIX (R91, R95). -/
  mixFn : Byte → Byte
  /-- `P_MARKER_IN_TRANSFORM`: does byte 3 go through the transform (R101)? -/
  markerInTransform : Bool
  /-- `P_CHANNEL_MAP`: logical channel to wire channel (R142). -/
  channelMap : List (BitVec 3 × BitVec 3)
  /-- `P_RAW_LEN`: bytes of the raw payload (R27, R105). -/
  rawLen : Nat
  /-- `P_FRAME_CAP`: bytes of the frame buffer (R28, R105). -/
  frameCap : Nat
  /-- `P_REM_WIDTH`: bits of the hold counter REM (R26). -/
  remWidth : Nat

/-- One draw of the cells whose value a reset leaves unspecified (R35: "Each such value is a draw"). -/
structure Config.Unspecified where
  rep : BitVec 2
  bidx : BitVec 4
  slot : BitVec 5
  rem : BitVec 16
  w : Byte
  cs1 : Byte
  cs2 : Byte
  raw : Vector Byte 8
  frm : Vector Byte 10
  flen : BitVec 6
  deriving DecidableEq, Repr, Inhabited

/-- FREE VALUE: what the n-th reset edge of a run leaves in the unspecified cells (R35, R200). It has no body that
a proof could see, so a claim about a run holds for every draw (log entry 2; safe). -/
opaque Config.resetDraw : Nat → Config.Unspecified

end Sys2Proof
end

