-- ==== Sys2Proof/Machine/State.lean ====
section
/-! DEFINITION. The state of CTX (spec/10_state.md), the reasons a step can stop, and the state after reset. -/

namespace Sys2Proof.Machine

/-- PHASE, what the line is doing (R26). Its code 3 is never reached, so it is not a constructor. -/
inductive Phase where
  /-- code 0: idle, BUSY = 0 -/
  | idle
  /-- code 1: a half-bit slot is on the line -/
  | slot
  /-- code 2: the inter-frame gap -/
  | gap
  deriving DecidableEq, Repr

/-- Why the machine stops with a fault. -/
inductive Fault where
  /-- An index outside its array: FRM[BIDX] with BIDX above 9, P_MARKERS[r] with r = 3, or a frame longer than
  FRM. Raised by ENTER_SLOT, REPEAT_START and FRAME_BUILD. R53 says every index a rule uses lies inside its array,
  so no run from reset raises it. SAFE: it stops only where the spec has no array cell to read. -/
  | indexRange
  deriving DecidableEq, Repr

/-- Why a step has no meaning: `refuse(reason)` of R183, which CTX applies to what the source calls undefined. -/
inductive Refusal where
  /-- An instruction without a meaning in this model. No arm raises it: every instruction has its meaning. SAFE. -/
  | notModelled (mnemonic : String)
  /-- ChanRange (R184): CONFIG with CHAN outside 1..5, and CHANNEL_REMAP with such an operand (R142). SAFE: the
  source calls it undefined. -/
  | chanRange
  /-- TempRange (R184): PAYLOAD_ENCODE, TEMP_ENCODE and SEND with |TEMP| of 1000 or more (R150). SAFE: the source
  calls it undefined. -/
  | tempRange
  /-- HumRange (R184): PAYLOAD_ENCODE, HUM_ENCODE and SEND with HUM of 100 or more (R150). SAFE: the source calls it
  undefined. -/
  | humRange
  /-- FrameCapacity (R184): FRAME_BUILD with a count above 7 (R105). SAFE: the source states it as a precondition,
  and no SEND reaches it. -/
  | frameCapacity
  deriving DecidableEq, Repr

/-- A segment of the line: one commanded level, held for a number of ticks (R10, R125). -/
structure Segment where
  level : Bool
  ticks : Nat
  deriving DecidableEq, Repr

/-- What an internal operation hands to the rule that invoked it (R79): the MODEL's own, no register of CTX. -/
inductive OpResult where
  /-- nothing yet -/
  | none
  /-- the byte OBSCURE or MIX returns (R90, R91) -/
  | byte (b : Byte)
  /-- the wire channel CHANNEL_REMAP returns (R142) -/
  | channel (ch : BitVec 3)
  /-- the held levels BYTE_SERIALIZE puts on the line (R120) -/
  | segments (l : List Segment)
  deriving DecidableEq, Repr

/-- The input ports at one rising edge of `clk` (R20, R21). -/
structure Edge where
  /-- `rst` -/
  rst : Bool
  /-- `us_tick` -/
  usTick : Bool
  /-- `cmd_valid` -/
  cmdValid : Bool
  /-- `cmd_word` -/
  cmdWord : Word
  deriving DecidableEq, Repr

/-- The state of CTX. The last three fields are the model's own: the spec's machine has no such registers. -/
structure State where
  /-- LINE (R25): the register that drives the `line` port; true is high. -/
  line : Bool
  /-- PHASE (R26). -/
  phase : Phase
  /-- REP (R26): the repetition in progress. -/
  rep : BitVec 2
  /-- BIDX (R26): the frame byte being serialized. -/
  bidx : BitVec 4
  /-- SLOT (R26): the half-bit slot within the byte. -/
  slot : BitVec 5
  /-- REM (R26): ticks left in the current segment. -/
  rem : BitVec 16
  /-- CMD_ERR (R23): the sticky command-error flag. -/
  cmdErr : Bool
  /-- ERR_CAUSE (R23): the cause of the first command error since the last clear. -/
  errCause : BitVec 3
  /-- CFG_VALID (R22, R23). -/
  cfgValid : Bool
  /-- CFG_CHAN (R22): the logical channel. -/
  cfgChan : BitVec 3
  /-- CFG_RID (R22): the random id. -/
  cfgRid : BitVec 5
  /-- RAW[0..7] (R27): the raw payload. -/
  raw : Vector Byte 8
  /-- FRM[0..9] (R28): the framed buffer. -/
  frm : Vector Byte 10
  /-- FLEN (R28): the frame length. -/
  flen : BitVec 6
  /-- CS1 (R29): the first running checksum. -/
  cs1 : Byte
  /-- CS2 (R29): the second running checksum. -/
  cs2 : Byte
  /-- W (R30): the Manchester working value. -/
  w : Byte
  /-- REFUSED (R31): the sticky mark of a refused state, with its reason. -/
  refused : Option Refusal
  /-- The MODEL's own: what the last internal operation run as a step of its own returned. No rule reads it. -/
  opResult : OpResult
  /-- The MODEL's own: the values of the input ports at the coming edges, the next one first. -/
  inputs : List Edge
  /-- The MODEL's own: how many reset edges have drawn their unspecified cells (`Config.resetDraw`). -/
  draws : Nat
  deriving DecidableEq, Repr

/-- CTX right after reset (R35, R201). LINE, PHASE, CMD_ERR, ERR_CAUSE, CFG_VALID, CFG_CHAN, CFG_RID and the REFUSED
mark are the spec's. REP, BIDX, SLOT, REM, W, CS1, CS2, RAW, FRM and FLEN are unspecified there: the zeros here are
this model's DESIGN CHOICE (log entry 1, unsafe). No input is scheduled. -/
def State.reset : State where
  line := false
  phase := .idle
  rep := 0
  bidx := 0
  slot := 0
  rem := 0
  cmdErr := false
  errCause := 0
  cfgValid := false
  cfgChan := 0
  cfgRid := 0
  raw := #v[0, 0, 0, 0, 0, 0, 0, 0]
  frm := #v[0, 0, 0, 0, 0, 0, 0, 0, 0, 0]
  flen := 0
  cs1 := 0
  cs2 := 0
  w := 0
  refused := none
  opResult := .none
  inputs := []
  draws := 0

end Sys2Proof.Machine
end

