-- ==== Sys2Proof/Machine/Operands.lean ====
section
/-! DEFINITION. How a rule reads its operands (R74, R75), and the digit arithmetic of R146 to R148. -/

namespace Sys2Proof.Machine

/-- `TEMP = sext_32(w[10:0])` (R74): tenths of a degree, signed. -/
def tempValue (t : BitVec 11) : Int := t.toInt

/-- `HUM = zext_32(w[17:11])` (R74): percent. -/
def humValue (h : BitVec 7) : Nat := h.toNat

/-- `CHAN = zext_32(w[7:5])` (R74). -/
def chanValue (ch : BitVec 3) : Nat := ch.toNat

/-- `RID = zext_32(w[4:0])` (R74). -/
def ridValue (rid : BitVec 5) : Nat := rid.toNat

/-- `abs(TEMP) < 1000`, the precondition of R150. -/
def tempLegal (t : BitVec 11) : Bool := decide ((tempValue t).natAbs < 1000)

/-- `HUM < 100`, the precondition of R150. -/
def humLegal (h : BitVec 7) : Bool := decide (humValue h < 100)

/-- `CHAN` in 1..5 (R75, R162). -/
def chanLegal (ch : BitVec 3) : Bool := decide (1 ≤ chanValue ch ∧ chanValue ch ≤ 5)

/-- The magnitude m of R146. -/
def magnitude (t : BitVec 11) : Nat := (tempValue t).natAbs

/-- The sign marker of R146: zero is non-negative. -/
def signMarker (c : Config) (t : BitVec 11) : Nibble :=
  if tempValue t < 0 then c.signNeg else c.signPos

/-- Two decimal digits in one byte, the more significant one in bits [7:4] (R56). -/
def bcdPair (tens ones : Nat) : Byte := (BitVec.ofNat 8 tens <<< 4) ||| BitVec.ofNat 8 ones

/-- The byte RAW[4] of TEMP_ENCODE (R147): the tens and ones digits of the magnitude. -/
def tempDigits (t : BitVec 11) : Byte := bcdPair (magnitude t / 10 % 10) (magnitude t % 10)

/-- The byte RAW[5] of TEMP_ENCODE (R147): the sign marker, with the hundreds digit added to its low nibble. -/
def tempSign (c : Config) (t : BitVec 11) : Byte :=
  ((signMarker c t).setWidth 8 <<< 4) + BitVec.ofNat 8 (magnitude t / 100)

/-- The byte RAW[6] of HUM_ENCODE (R148). -/
def humDigits (h : BitVec 7) : Byte := bcdPair (humValue h / 10) (humValue h % 10)

/-- The count field of byte 2, `(byte2 >> 1) & 0x1F` (R101, R144). -/
def countField (b2 : Byte) : Nat := ((b2 >>> 1) &&& 0x1F#8).toNat

/-- Byte 1 of the payload (R143): the wire channel in bits [7:5], the random id in bits [4:0]. -/
def identityByte (wire : BitVec 3) (rid : BitVec 5) : Byte :=
  (wire.setWidth 8 <<< 5) ||| rid.setWidth 8

end Sys2Proof.Machine
end

