-- ==== Sys2Proof/Machine/Flags.lean ====
section
/-! DEFINITION. The status flags (R23, R33), the cause codes (R181) and what the output ports show (R20). -/

namespace Sys2Proof.Machine

/-- The causes of a command error (R181). -/
inductive ErrorCause where
  | reservedOp
  | reservedBits
  | busy
  | notConfigured
  deriving DecidableEq, Repr

/-- The code a cause puts into ERR_CAUSE (R181). -/
def causeCode : ErrorCause → BitVec 3
  | .reservedOp => 1#3
  | .reservedBits => 2#3
  | .busy => 3#3
  | .notConfigured => 4#3

/-- The code of a phase (R26). -/
def phaseCode : Phase → BitVec 2
  | .idle => 0#2
  | .slot => 1#2
  | .gap => 2#2

/-- BUSY (R23, R26): computed from PHASE, not stored. -/
def busy (s : State) : Bool := decide (s.phase ≠ .idle)

/-- The `status` port (R23): bits [7:6] read 0. -/
def statusPort (s : State) : Byte :=
  0#2 ++ s.errCause ++ BitVec.ofBool s.cfgValid ++ BitVec.ofBool s.cmdErr ++ BitVec.ofBool (busy s)

/-- The `cfg` port (R20, R22): CFG_CHAN and CFG_RID side by side. -/
def cfgPort (s : State) : Byte := s.cfgChan ++ s.cfgRid

/-- The `line` port (R20, R25): always LINE. -/
def linePort (s : State) : Bool := s.line

/-- The output ports together, what the host's `READ` samples (R81). Reading has no side effect (R59). -/
structure Ports where
  line : Bool
  status : Byte
  cfg : Byte
  deriving DecidableEq, Repr

/-- The output ports of a state: they show registers only (R21). -/
def readPorts (s : State) : Ports := ⟨linePort s, statusPort s, cfgPort s⟩

end Sys2Proof.Machine
end

