-- ==== Sys2Proof/Machine/Params.lean ====
section
/-! DEFINITION. The parameter values of this hardware (R5), the body of MIX among them (R91). -/

namespace Sys2Proof.Machine

/-- The body that R91 gives for `P_MIX_FN`. The source does not contain it (R91: from general knowledge; G1 of
93_implementation_defined.md): PRESUMED, log entry 3. -/
def mixBody (k1 k2 : Byte) (b : Byte) : Byte :=
  let x := if b.getLsbD 7 then b ^^^ k1 else b
  let i := x ^^^ (x >>> 1)
  let i := if x.getLsbD 0 then i ^^^ k2 else i
  let x := if i.getLsbD 0 then x ^^^ k2 else x
  x ^^^ (i >>> 1)

/-- The value column of R5. -/
def ctx : Config where
  halfBit := 500
  gap := 30000
  tickMicros := 1
  repeats := 3
  markers := [0x5E, 0x9E, 0xDE]
  header := 0x75
  b2BattOk := 0xCE
  b2BattLow := 0x0E
  signNeg := 0x4
  signPos := 0xC
  comfort := 0xF1
  mixK1 := 0x95
  mixK2 := 0x5F
  mixFn := mixBody 0x95 0x5F
  markerInTransform := false
  channelMap := [(1, 1), (2, 2), (3, 3), (4, 5), (5, 6)]
  rawLen := 8
  frameCap := 10
  remWidth := 16

end Sys2Proof.Machine
end

