-- ==== Sys2Proof/Machine/Ops.lean ====
section
/-! DEFINITION. The shared operations: sequencing of outcomes, the register updates, the byte arrays, the command
error and its clearing (R180, R164), and what a reset edge does (R200). -/

namespace Sys2Proof.Machine

/-- What a meaning answers. -/
abbrev Result := Host.Outcome State Fault Refusal

/-- First `o`, then `k` on what it answers; a fault or a refusal ends the event, which then writes nothing (R183). -/
@[inline] def andThen {α β : Type} (o : Host.Outcome α Fault Refusal) (k : α → Host.Outcome β Fault Refusal) :
    Host.Outcome β Fault Refusal :=
  match o with
  | .next a => k a
  | .fault r => .fault r
  | .refused r => .refused r

/-- "if REFUSED: no meaning" (R160, R165, R183): once the mark is set, every later event is refused, reset included. -/
def whenLive (s : State) (o : Result) : Result :=
  match s.refused with
  | some r => .refused r
  | none => o

/-- The state that R183 describes after a refusal: nothing written but the mark. The outcome `.refused r` of a step
stands for this state; every step from it is refused with the same reason. -/
def State.markRefused (s : State) (r : Refusal) : State := { s with refused := some r }

/-! Register updates: each is what one statement of a rule writes. -/

/-- `CFG_CHAN`, `CFG_RID` and `CFG_VALID <- 1` of an accepted CONFIG (R162). -/
def State.setCfg (s : State) (chan : BitVec 3) (rid : BitVec 5) : State :=
  { s with cfgChan := chan, cfgRid := rid, cfgValid := true }

/-- `REM <- n` (R165). -/
def State.setRem (s : State) (n : BitVec 16) : State := { s with rem := n }

/-- `W <- v` (R121). -/
def State.setW (s : State) (v : Byte) : State := { s with w := v }

/-- `LINE <- v` (R166). -/
def State.setLine (s : State) (v : Bool) : State := { s with line := v }

/-- `PHASE <- SLOT`, `SLOT <- k`, `REM <- n` (R166). -/
def State.startSlot (s : State) (k : BitVec 5) (n : BitVec 16) : State :=
  { s with phase := .slot, slot := k, rem := n }

/-- `PHASE <- GAP`, `LINE <- 0`, `REM <- n` (R112). -/
def State.startGap (s : State) (n : BitVec 16) : State :=
  { s with phase := .gap, line := false, rem := n }

/-- `PHASE <- IDLE` (R113). -/
def State.setIdle (s : State) : State := { s with phase := .idle }

/-- `BIDX <- i` (R124). -/
def State.setBidx (s : State) (i : BitVec 4) : State := { s with bidx := i }

/-- `REP <- r` and `BIDX <- 0` (R111). -/
def State.startRep (s : State) (r : BitVec 2) : State := { s with rep := r, bidx := 0#4 }

/-- All of RAW (R27). -/
def State.setRaw (s : State) (v : Vector Byte 8) : State := { s with raw := v }

/-- `RAW[i] <- v` (R9, R51). -/
def State.writeRaw (s : State) (i : Fin 8) (v : Byte) : State := { s with raw := s.raw.set i v }

/-- All of FRM (R111). -/
def State.setFrm (s : State) (v : Vector Byte 10) : State := { s with frm := v }

/-- FRM, FLEN, CS1 and CS2 as FRAME_BUILD leaves them; they become visible together (R100). -/
def State.setFrame (s : State) (v : Vector Byte 10) (n : BitVec 6) (c1 c2 : Byte) : State :=
  { s with frm := v, flen := n, cs1 := c1, cs2 := c2 }

/-- `CMD_ERR` and `ERR_CAUSE` (R180, R164). -/
def State.setError (s : State) (flag : Bool) (cause : BitVec 3) : State :=
  { s with cmdErr := flag, errCause := cause }

/-- The model's own: the result an internal operation returns. -/
def State.setResult (s : State) (r : OpResult) : State := { s with opResult := r }

/-- The model's own: the input ports at the coming edges. -/
def State.setInputs (s : State) (l : List Edge) : State := { s with inputs := l }

/-- What R35 gives for a reset, with `u` in the unspecified cells. REFUSED is unchanged by reset (R31, R35), and so are
the model's own fields but for the count of draws. -/
def State.resetRegs (s : State) (u : Config.Unspecified) : State where
  line := false
  phase := .idle
  rep := u.rep
  bidx := u.bidx
  slot := u.slot
  rem := u.rem
  cmdErr := false
  errCause := 0#3
  cfgValid := false
  cfgChan := 0#3
  cfgRid := 0#5
  raw := u.raw
  frm := u.frm
  flen := u.flen
  cs1 := u.cs1
  cs2 := u.cs2
  w := u.w
  refused := s.refused
  opResult := s.opResult
  inputs := s.inputs
  draws := s.draws + 1

/-! The byte arrays (R9, R51): every access moves one byte. -/

/-- `MemRead(RAW, i, 1)`: none outside 0..7. -/
def readRaw (s : State) (i : Nat) : Option Byte := s.raw[i]?

/-- `MemRead(FRM, i, 1)`: none outside 0..9. -/
def readFrm (s : State) (i : Nat) : Option Byte := s.frm[i]?

/-- A tick count as the P_REM_WIDTH bits of REM hold it (R5, R26). -/
def holdTicks (c : Config) (n : Nat) : BitVec 16 := BitVec.ofNat 16 (n % 2 ^ c.remWidth)

/-! The command error, and how it is left (R188). -/

/-- `raise CmdError(cause)` (R180): the first cause since the last clear is kept, and nothing else changes. -/
def raiseCmdError (cause : ErrorCause) (s : State) : State :=
  s.setError true (if s.cmdErr then s.errCause else causeCode cause)

/-- The clearing of a command error (R164). -/
def clearCmdError (s : State) : State := s.setError false 0#3

/-- A reset edge (R200): the values of R35, the unspecified cells drawn anew. -/
def resetEdge (s : State) : State := s.resetRegs (Config.resetDraw s.draws)

end Sys2Proof.Machine
end

