-- ==== Sys2Proof/Machine/Payload.lean ====
section
/-! DEFINITION. PAYLOAD ENCODER: PAYLOAD_ENCODE, CHANNEL_REMAP, TEMP_ENCODE, HUM_ENCODE
(spec/44_payload_encoder.md). -/

namespace Sys2Proof.Machine

/-- CHANNEL_REMAP (R142) by the table `P_CHANNEL_MAP`; 0, 6 and 7 are what the source calls undefined. -/
def channelRemap (c : Config) (ch : BitVec 3) : Host.Outcome (BitVec 3) Fault Refusal :=
  match c.channelMap.lookup ch with
  | some wire => .next wire
  | none => .refused .chanRange

/-- TEMP_ENCODE (R147): RAW[4] and RAW[5]. -/
def tempEncode (c : Config) (temp : BitVec 11) (s : State) : State :=
  (s.writeRaw 4 (tempDigits temp)).writeRaw 5 (tempSign c temp)

/-- HUM_ENCODE (R148): RAW[6]. -/
def humEncode (hum : BitVec 7) (s : State) : State := s.writeRaw 6 (humDigits hum)

/-- Byte 2 (R144). -/
def batteryByte (c : Config) (batt : Bool) : Byte := if batt then c.b2BattOk else c.b2BattLow

/-- PAYLOAD_ENCODE (R151): the range refusals of R150 first, TEMP before HUM, then the eight bytes of R140 in order. -/
def payloadEncode (c : Config) (temp : BitVec 11) (hum : BitVec 7) (batt : Bool) (s : State) : Result :=
  if tempLegal temp = false then .refused .tempRange
  else if humLegal hum = false then .refused .humRange
  else
    andThen (channelRemap c s.cfgChan) fun wire =>
      let s := ((s.writeRaw 0 c.header).writeRaw 1 (identityByte wire s.cfgRid)).writeRaw 2 (batteryByte c batt)
      let s := tempEncode c temp (s.writeRaw 3 0#8)
      .next ((humEncode hum s).writeRaw 7 c.comfort)

/-- CHANNEL_REMAP as a step of its own: it returns the wire channel and touches no register (R142). -/
def execChannelRemap (ch : BitVec 3) (s : State) : Result :=
  whenLive s (andThen (channelRemap ctx ch) fun wire => .next (s.setResult (.channel wire)))

/-- TEMP_ENCODE as a step of its own: an out-of-range magnitude is refused by R150 (R147). -/
def execTempEncode (temp : BitVec 11) (s : State) : Result :=
  whenLive s (if tempLegal temp = false then .refused .tempRange else .next (tempEncode ctx temp s))

/-- HUM_ENCODE as a step of its own: an out-of-range HUM is refused by R150 (R148). -/
def execHumEncode (hum : BitVec 7) (s : State) : Result :=
  whenLive s (if humLegal hum = false then .refused .humRange else .next (humEncode hum s))

/-- PAYLOAD_ENCODE as a step of its own (R151). -/
def execPayloadEncode (temp : BitVec 11) (hum : BitVec 7) (batt : Bool) (s : State) : Result :=
  whenLive s (payloadEncode ctx temp hum batt s)

end Sys2Proof.Machine
end

