-- ==== Sys2Proof/Machine/Transform.lean ====
section
/-! DEFINITION. TRANSFORM: OBSCURE and MIX (spec/40_transform.md). -/

namespace Sys2Proof.Machine

/-- The loop of R90, with the iterations still allowed: it runs at most 8 times, since each shift clears one more low
bit of `inp`. -/
def obscureLoop : Nat → Byte → Byte → Byte
  | 0, acc, _ => acc
  | n + 1, acc, inp => if inp = 0#8 then acc else obscureLoop n (acc ^^^ inp) (inp <<< 1)

/-- OBSCURE (R90). -/
def obscure (b : Byte) : Byte := obscureLoop 8 0#8 b

/-- MIX (R91): the parameter `P_MIX_FN`. -/
def mix (c : Config) (b : Byte) : Byte := c.mixFn b

/-- OBSCURE as a step of its own: it returns its byte and touches no register (R94). -/
def execObscure (b : Byte) (s : State) : Result :=
  whenLive s (.next (s.setResult (.byte (obscure b))))

/-- MIX as a step of its own: it returns its byte and touches no register (R94). -/
def execMix (b : Byte) (s : State) : Result :=
  whenLive s (.next (s.setResult (.byte (mix ctx b))))

end Sys2Proof.Machine
end

