-- ==== Sys2Proof/Machine/FrameBuilder.lean ====
section
/-! DEFINITION. FRAME BUILDER: FRAME_BUILD (spec/41_frame_builder.md). -/

namespace Sys2Proof.Machine

/-- The working data of a build: FRM and the two running checksums (R100, R102). -/
structure Build where
  frm : Vector Byte 10
  cs1 : Byte
  cs2 : Byte
  deriving DecidableEq, Repr

/-- What a build leaves: the Framed Buffer, the final checksums, and FLEN (R103). -/
structure Framed where
  build : Build
  flen : BitVec 6
  deriving DecidableEq, Repr

/-- T of R101 in increasing order: the indices 1 to count, index 3 only when the marker is transformed. -/
def transformIndices (c : Config) (count : Nat) : List (Fin 10) :=
  ([1, 2, 3, 4, 5, 6, 7, 8, 9] : List (Fin 10)).filter fun i =>
    decide (i.val ≤ count) && (decide (i.val ≠ 3) || c.markerInTransform)

/-- One pass of the loop of R100: obscure the byte, then accumulate it (R102). -/
def transformByte (c : Config) (b : Build) (i : Fin 10) : Build :=
  let o := obscure b.frm[i]
  { frm := b.frm.set i o, cs1 := b.cs1 ^^^ o, cs2 := mix c (b.cs2 ^^^ o) }

/-- The loop of R100 over T, both checksums starting at 0 (R102). -/
def transformLoop (c : Config) (count : Nat) (frm : Vector Byte 10) : Build :=
  (transformIndices c count).foldl (transformByte c) ⟨frm, 0#8, 0#8⟩

/-- FRAME_BUILD on a frame buffer whose count field holds `count` (R100): a count outside the capacity is refused before
any write (R105). With the values of R5 every index is below 10; a larger P_FRAME_CAP would run past this buffer's 10 cells,
which is the fault. -/
def buildCounted (c : Config) (count : Nat) (frm : Vector Byte 10) : Host.Outcome Framed Fault Refusal :=
  if count > c.rawLen - 1 ∨ count + 3 > c.frameCap then .refused .frameCapacity
  else if h : count + 2 < 10 then
    let b := transformLoop c count frm
    .next {
      build := {
        b with
        frm := (b.frm.set (count + 1) b.cs1 (by omega)).set (count + 2) (mix c (b.cs1 ^^^ b.cs2)) h }
      flen := BitVec.ofNat 6 (count + 3) }
  else .fault .indexRange

/-- FRAME_BUILD on a frame buffer (R100): `count` is read once, before byte 2 is transformed (R101). -/
def buildFrame (c : Config) (frm : Vector Byte 10) : Host.Outcome Framed Fault Refusal :=
  buildCounted c (countField frm[2]) frm

/-- FRAME_BUILD on the state: FRM, FLEN, CS1 and CS2 become visible together (R100, R58). -/
def frameBuild (c : Config) (s : State) : Result :=
  andThen (buildFrame c s.frm) fun f =>
    .next (s.setFrame f.build.frm f.flen f.build.cs1 f.build.cs2)

/-- FRAME_BUILD as a step of its own (R100). -/
def execFrameBuild (s : State) : Result := whenLive s (frameBuild ctx s)

end Sys2Proof.Machine
end

