-- ==== Sys2Proof/Machine/Manchester.lean ====
section
/-! DEFINITION. LINE ENCODER: entering and leaving a slot, and BYTE_SERIALIZE (spec/43_manchester.md, R166). -/

namespace Sys2Proof.Machine

/-- ENTER_SLOT(k) (R166): slots 0 and 1 are the start condition, slot 2 loads W, and from slot 2 on the line shows bit 0
of W. -/
def enterSlot (c : Config) (k : BitVec 5) (s : State) : Result :=
  let s := s.startSlot k (holdTicks c c.halfBit)
  if k = 0#5 then .next (s.setLine false)
  else if k = 1#5 then .next (s.setLine true)
  else if k = 2#5 then
    match readFrm s s.bidx.toNat with
    | some b => .next ((s.setW b).setLine (b.getLsbD 0))
    | none => .fault .indexRange
  else .next (s.setLine (s.w.getLsbD 0))

/-- The working value after data step `j` (R121): inverted, and shifted right after every odd step (R122). -/
def nextWorking (j : Nat) (w : Byte) : Byte := if j % 2 = 1 then (~~~w) >>> 1 else ~~~w

/-- The exit update of the current slot (R121): none for the two start slots. -/
def exitSlot (s : State) : State :=
  if 2 ≤ s.slot.toNat then s.setW (nextWorking (s.slot.toNat - 2) s.w) else s

/-- The 18 slots of a byte, in order (R120). -/
def byteSlots : List (BitVec 5) := [0, 1, 2, 3, 4, 5, 6, 7, 8, 9, 10, 11, 12, 13, 14, 15, 16, 17]

/-- Drives the given slots of byte BIDX one after another: each is entered, held for P_HALF_BIT ticks until REM is 0, and
left (R120, R121). `acc` is the segments driven so far; the operation returns all of them. -/
def driveSlots (c : Config) : List (BitVec 5) → List Segment → State → Result
  | [], acc, s => .next (s.setResult (.segments acc))
  | k :: ks, acc, s =>
    andThen (enterSlot c k s) fun s1 =>
      driveSlots c ks (acc ++ [⟨s1.line, s1.rem.toNat⟩]) (exitSlot (s1.setRem 0#16))

/-- BYTE_SERIALIZE (R120): all 18 slots of FRM[BIDX]. It ends where slot 17 ends, before the choice of R124. -/
def byteSerialize (c : Config) (s : State) : Result := driveSlots c byteSlots [] s

/-- BYTE_SERIALIZE as a step of its own (R120). The sequencer runs the same slots tick by tick (R165). -/
def execByteSerialize (s : State) : Result := whenLive s (byteSerialize ctx s)

/-! The closed form of R123 and R125. -/

/-- The level of slot `k` of byte `b` (R120, R123): low, high, then each bit, least significant first, as the pair of the
bit and its complement. -/
def slotLevel (b : Byte) (k : Nat) : Bool :=
  if k = 0 then false
  else if k = 1 then true
  else if k % 2 = 0 then b.getLsbD ((k - 2) / 2) else !b.getLsbD ((k - 2) / 2)

/-- `BT(b)` of R125: the 18 segments of a byte. -/
def byteTrace (c : Config) (b : Byte) : List Segment :=
  (List.range 18).map fun k => ⟨slotLevel b k, c.halfBit⟩

/-- The segments of the bytes of a frame, in index order (R124), and the gap after it (R112). -/
def frameTrace (c : Config) (bytes : List Byte) : List Segment :=
  bytes.flatMap (byteTrace c) ++ [⟨false, c.gap⟩]

/-- The microseconds of a segment (R10). -/
def segmentMicros (c : Config) (g : Segment) : Nat := g.ticks * c.tickMicros

/-- The ticks of a list of segments together (R126: nothing between them). -/
def totalTicks (l : List Segment) : Nat := (l.map Segment.ticks).sum

/-- The level on the line `t` ticks after the start of a list of segments; none after its end. -/
def levelAt : List Segment → Nat → Option Bool
  | [], _ => none
  | g :: l, t => if t < g.ticks then some g.level else levelAt l (t - g.ticks)

end Sys2Proof.Machine
end

