-- ==== Sys2Proof/Machine/Repeater.lean ====
section
/-! DEFINITION. REPEATER: REPEAT_START (spec/42_repeater.md), and the line trace of a SEND (R125). -/

namespace Sys2Proof.Machine

/-- `P_MARKERS[r]` (R110); none when there is no repetition `r`. -/
def markerOf (c : Config) (r : BitVec 2) : Option Byte := c.markers[r.toNat]?

/-- The copy of R111: RAW into FRM[0..7], then the marker into FRM[3]; FRM[8] and FRM[9] keep what they held. -/
def loadFrame (raw : Vector Byte 8) (marker : Byte) (frm : Vector Byte 10) : Vector Byte 10 :=
  #v[raw[0], raw[1], raw[2], marker, raw[4], raw[5], raw[6], raw[7], frm[8], frm[9]]

/-- REPEAT_START(r) (R111): a fresh copy of RAW, the marker, FRAME_BUILD, then slot 0 of byte 0. -/
def repeatStart (c : Config) (r : BitVec 2) (s : State) : Result :=
  match markerOf c r with
  | none => .fault .indexRange
  | some m =>
    andThen (frameBuild c (s.setFrm (loadFrame s.raw m s.frm))) fun s1 => enterSlot c 0#5 (s1.startRep r)

/-- REPEAT_START as a step of its own (R111). -/
def execRepeatStart (r : BitVec 2) (s : State) : Result := whenLive s (repeatStart ctx r s)

/-- `F_r` of R125: the bytes FRM[0..FLEN-1] of the frame that repetition `r` sends for the payload `raw`. -/
def frameBytes (c : Config) (raw : Vector Byte 8) (marker : Byte) : Host.Outcome (List Byte) Fault Refusal :=
  andThen (buildFrame c (loadFrame raw marker (Vector.replicate 10 0))) fun f =>
    .next (f.build.frm.toList.take f.flen.toNat)

/-- The segments of the repetitions with the given markers. -/
def tracesOf (c : Config) (raw : Vector Byte 8) : List Byte → Host.Outcome (List Segment) Fault Refusal
  | [] => .next []
  | m :: ms =>
    andThen (frameBytes c raw m) fun bytes =>
      andThen (tracesOf c raw ms) fun rest => .next (frameTrace c bytes ++ rest)

/-- `LT(P)` of R125: the line trace of a SEND accepted with RAW = P. -/
def lineTrace (c : Config) (raw : Vector Byte 8) : Host.Outcome (List Segment) Fault Refusal :=
  tracesOf c raw (c.markers.take c.repeats)

end Sys2Proof.Machine
end

