-- ==== Sys2Proof/Machine/Commands.lean ====
section
/-! DEFINITION. The commands of the host interface: NOP, CONFIG, SEND, CLRERR (spec/45_commands.md). -/

namespace Sys2Proof.Machine

/-- NOP (R161): no state changes, in every phase. -/
def execNop (s : State) : Result := whenLive s (.next s)

/-- CONFIG (R162): the busy check comes before the range check (R182). -/
def execConfig (chan : BitVec 3) (rid : BitVec 5) (s : State) : Result :=
  whenLive s
    (if busy s then .next (raiseCmdError .busy s)
    else if chanLegal chan = false then .refused .chanRange
    else .next (s.setCfg chan rid))

/-- SEND (R163): busy, then not configured, then the operand refusals (R182); then the payload, and repetition 0. -/
def execSend (temp : BitVec 11) (hum : BitVec 7) (batt : Bool) (s : State) : Result :=
  whenLive s
    (if busy s then .next (raiseCmdError .busy s)
    else if s.cfgValid = false then .next (raiseCmdError .notConfigured s)
    else andThen (payloadEncode ctx temp hum batt s) fun s1 => repeatStart ctx 0#2 s1)

/-- CLRERR (R164): in every phase. -/
def execClrerr (s : State) : Result := whenLive s (.next (clearCmdError s))

end Sys2Proof.Machine
end

