-- ==== Sys2Proof/Machine/Sequencer.lean ====
section
/-! DEFINITION. The sequencer's own step, SEQ_TICK (R165). -/

namespace Sys2Proof.Machine

/-- What follows slot 17 of a byte (R124): the next byte, or the gap after the frame's last byte (R112). -/
def endOfByte (c : Config) (s : State) : Result :=
  if s.bidx.toNat + 1 < s.flen.toNat then enterSlot c 0#5 (s.setBidx (s.bidx + 1#4))
  else .next (s.startGap (holdTicks c c.gap))

/-- What follows a slot whose hold has ended (R165). -/
def endOfSlot (c : Config) (s : State) : Result :=
  let s := exitSlot s
  if s.slot.toNat < 17 then enterSlot c (s.slot + 1#5) s else endOfByte c s

/-- What follows a gap whose hold has ended (R113). -/
def endOfGap (c : Config) (s : State) : Result :=
  if s.rep.toNat + 1 < c.repeats then repeatStart c (s.rep + 1#2) s else .next s.setIdle

/-- Counts the current segment down; `k` runs in the tick that brings REM to 0 (R165). -/
def countDown (s : State) (k : State → Result) : Result :=
  let s := s.setRem (s.rem - 1#16)
  if s.rem ≠ 0#16 then .next s else k s

/-- SEQ_TICK (R165); a tick while idle changes no state (R167). -/
def seqTick (c : Config) (s : State) : Result :=
  match s.phase with
  | .idle => .next s
  | .slot => countDown s (endOfSlot c)
  | .gap => countDown s (endOfGap c)

/-- SEQ_TICK as the event `Tick` performs it (R165). -/
def execSeqTick (s : State) : Result := whenLive s (seqTick ctx s)

end Sys2Proof.Machine
end

