-- ==== Sys2Proof/Machine/Dispatch.lean ====
section
/-! DEFINITION. One arm for each row of spec/opcode_table.json, in the table's order. -/

namespace Sys2Proof.Machine

def exec (i : Instr) (s : State) : Host.Outcome State Fault Refusal :=
  match i with
  | .nop => Sys2Proof.Machine.execNop s
  | .config chan rid => Sys2Proof.Machine.execConfig chan rid s
  | .send temp hum batt => Sys2Proof.Machine.execSend temp hum batt s
  | .clrerr => Sys2Proof.Machine.execClrerr s
  | .obscure b => Sys2Proof.Machine.execObscure b s
  | .mix b => Sys2Proof.Machine.execMix b s
  | .frameBuild => Sys2Proof.Machine.execFrameBuild s
  | .repeatStart r => Sys2Proof.Machine.execRepeatStart r s
  | .byteSerialize => Sys2Proof.Machine.execByteSerialize s
  | .channelRemap ch => Sys2Proof.Machine.execChannelRemap ch s
  | .tempEncode temp => Sys2Proof.Machine.execTempEncode temp s
  | .humEncode hum => Sys2Proof.Machine.execHumEncode hum s
  | .payloadEncode temp hum batt => Sys2Proof.Machine.execPayloadEncode temp hum batt s
  | .seqTick => Sys2Proof.Machine.execSeqTick s

end Sys2Proof.Machine
end

