-- ==== Sys2Proof/Machine/Events.lean ====
section
/-! DEFINITION. The events of a clock edge (R21, R160, R187), and the fetch of the next edge's input ports. -/

namespace Sys2Proof.Machine

/-- `Cmd(w)` (R160): decode, then the command error of a reserved word or the command's meaning. -/
def onCommand (w : Word) (s : State) : Result :=
  match decode w with
  | .error .reservedOp => .next (raiseCmdError .reservedOp s)
  | .error .reservedBits => .next (raiseCmdError .reservedBits s)
  | .ok i => exec i s

/-- `Tick` (R165). -/
def onTick (s : State) : Result := exec .seqTick s

/-- What one rising edge of `clk` does (R21, R187): reset over everything, else the tick first and the command on the
state the tick produced. An edge with no event changes nothing. -/
def onEdge (e : Edge) (s : State) : Result :=
  if e.rst then .next (resetEdge s)
  else
    andThen (if e.usTick then onTick s else .next s) fun s1 =>
      if e.cmdValid then onCommand e.cmdWord s1 else .next s1

/-- One rising edge: the input ports of the coming edge are taken, and the edge acts. With no edge scheduled the inputs
stay quiet and nothing changes (R21). In a refused state every event is without meaning (R183). -/
def clockEdge (s : State) : Result :=
  whenLive s
    (match s.inputs with
    | [] => .next s
    | e :: es => onEdge e (s.setInputs es))

/-- An edge that carries the command `w` and no tick (R21). -/
def commandEdge (w : Word) : Edge := ⟨false, false, true, w⟩

/-- An edge that carries a tick and no command (R21). -/
def tickEdge : Edge := ⟨false, true, false, 0⟩

/-- An edge that carries a tick and the command `w` (R21). -/
def tickCommandEdge (w : Word) : Edge := ⟨false, true, true, w⟩

/-- An edge with `rst` = 1 (R200). -/
def rstEdge : Edge := ⟨true, false, false, 0⟩

/-- `s` with the command `w` presented at the very next edge, before the edges already scheduled. -/
def presentCommand (s : State) (w : Word) : State := s.setInputs (commandEdge w :: s.inputs)

/-- `n` ticks with no command (R81 `TICKS n`), as events on the state. -/
def ticks : Nat → State → Result
  | 0, s => .next s
  | n + 1, s => andThen (onTick s) (ticks n)

end Sys2Proof.Machine
end

