-- ==== Sys2Proof/Machine/Step.lean ====
section
/-! DEFINITION. One step of CTX: one rising edge of `clk` (R20, R21). -/

namespace Sys2Proof.Machine

/-- One step is one rising edge of `clk`, with the input ports that the state schedules for it. -/
def step (s : State) : Host.Outcome State Fault Refusal := clockEdge s

/-- `s` with the command word that `nbits` and `w` stand for presented on `cmd_word` at the next edge, where CTX takes
its next command (it fetches nothing: R26, R50). The edges already scheduled follow it. -/
def State.withFetchWord (s : State) (nbits w : Nat) : State := presentCommand s (tableWord nbits w)

end Sys2Proof.Machine
end

