-- ==== Sys2Proof/Machine/Script.lean ====
section
/-! DEFINITION. The host program: its lines, what each does and what it shows (R80, R81). -/

namespace Sys2Proof.Machine

/-- Ticks that the current segment still lasts: REM = 0, which no run reaches while busy, wraps (R165). -/
def holdLeft (s : State) : Nat := if s.rem = 0#16 then 65536 else s.rem.toNat

/-- More than the bytes that can still start after byte `b`: BIDX counts modulo 16, and no byte at 10 or above gets past
its start condition, since FRM has no such cell. -/
def bytesBound (b : Nat) : Nat := if b < 10 then 10 - b else 26 - b

/-- At least the ticks that can follow the current segment, whatever the state. -/
def afterHold (s : State) : Nat :=
  match s.phase with
  | .idle => 0
  | .slot =>
    if 10 ≤ s.bidx.toNat ∧ s.slot.toNat ≤ 1 then (1 - s.slot.toNat) * 500
    else (17 - s.slot.toNat) * 500 + bytesBound s.bidx.toNat * 9000 + 30000 + (2 - s.rep.toNat) * 130000
  | .gap => (2 - s.rep.toNat) * 130000

/-- A number of ticks within which CTX is idle or has stopped, whatever its state (`seqTick_pollBound`). In a sound state
`ticksLeft` is the exact number. -/
def pollBound (s : State) : Nat := if busy s then holdLeft s + afterHold s else 0

/-- Polls `status[0]` and lets a tick pass while it is 1, for at most the given number of ticks; `taken` counts them. -/
def pollBusy : Nat → Nat → State → Host.Outcome (Nat × State) Fault Refusal
  | 0, taken, s => .next (taken, s)
  | n + 1, taken, s => if busy s then andThen (onTick s) (pollBusy n (taken + 1)) else .next (taken, s)

/-- `WAITIDLE` (R81): ticks pass until BUSY = 0; it answers how many, and the state then. The bound never cuts the poll
short: an answer is idle in every case (`waitIdle_idle`). -/
def waitIdle (s : State) : Host.Outcome (Nat × State) Fault Refusal := pollBusy (pollBound s) 0 s

/-- A line of a host program (R80, R81). -/
inductive ScriptLine where
  /-- a command line: one edge with its word, with a tick on the same edge if the line says so (`+TICK`) -/
  | command (a : AsmLine) (withTick : Bool)
  /-- `TICKS n` -/
  | ticks (n : Nat)
  /-- `WAITIDLE` -/
  | waitIdle
  /-- `RESET` -/
  | reset
  /-- `READ` -/
  | read
  deriving DecidableEq, Repr

/-- What a line of a host program leaves: the state, the ticks a `WAITIDLE` took, and what a `READ` sampled. -/
structure LineResult where
  state : State
  waited : Option Nat
  sample : Option Ports
  deriving DecidableEq, Repr

/-- A line that only changes the state. -/
def LineResult.ofState (s : State) : LineResult := ⟨s, none, none⟩

/-- The edge of a command line (R81): the word on its own edge, with a tick only if the line says so. -/
def lineEdge (w : Word) (withTick : Bool) : Edge := if withTick then tickCommandEdge w else commandEdge w

/-- What a line of a host program does (R81); none when the assembler rejects it (R80). In a refused state no line has a
meaning (R31). -/
def runLine (l : ScriptLine) (s : State) : Option (Host.Outcome LineResult Fault Refusal) :=
  let events (o : Result) := andThen (whenLive s o) fun t => .next (LineResult.ofState t)
  match l with
  | .command a withTick => (assemble a).map fun w => events (onEdge (lineEdge w withTick) s)
  | .ticks n => some (events (ticks n s))
  | .waitIdle => some (andThen (whenLive s (.next s)) fun s => andThen (waitIdle s) fun p => .next ⟨p.2, some p.1, none⟩)
  | .reset => some (events (onEdge rstEdge s))
  | .read => some (andThen (whenLive s (.next s)) fun s => .next ⟨s, none, some (readPorts s)⟩)

/-- A host program from its first line on, with what each line leaves; none when the assembler rejects a line. -/
def runScript : List ScriptLine → State → Option (Host.Outcome (List LineResult) Fault Refusal)
  | [], _ => some (.next [])
  | l :: ls, s =>
    match runLine l s with
    | none => none
    | some (.fault r) => some (.fault r)
    | some (.refused r) => some (.refused r)
    | some (.next x) => (runScript ls x.state).map fun o => andThen o fun xs => .next (x :: xs)

end Sys2Proof.Machine
end

