-- ==== Sys2Proof/Safety.lean ====
section
/-! DEFINITION. What counts as a legal input and a sound state of CTX, in the terms the statements use. -/

namespace Sys2Proof.Machine

/-- The word holds no operand outside the ranges of R75. Reserved words are legal inputs: they raise a command error. -/
def legalCommand (w : Word) : Bool :=
  match decode w with
  | .ok (.config chan _) => chanLegal chan
  | .ok (.send temp hum _) => tempLegal temp && humLegal hum
  | _ => true

/-- The edge is legal: if it presents a command, that command is (R183: the premise a claim about a host program
carries). -/
def legalEdge (e : Edge) : Bool := e.rst || !e.cmdValid || legalCommand e.cmdWord

/-- The inputs of the coming edge are legal. -/
def nextEdgeLegal (s : State) : Bool :=
  match s.inputs with
  | [] => true
  | e :: _ => legalEdge e

/-- Both nibbles of the byte are decimal digits (R56). -/
def isBcd (b : Byte) : Bool := decide ((b >>> 4).toNat ≤ 9) && decide ((b &&& 0x0F#8).toNat ≤ 9)

/-- The working value on entry to data slot `k` of byte `b` (R121, in closed form): shifted once for every two slots, and
inverted in the odd ones. -/
def workingValue (b : Byte) (k : Nat) : Byte :=
  if k % 2 = 0 then b >>> ((k - 2) / 2) else ~~~(b >>> ((k - 2) / 2))

/-- RAW has the layout of R140 for the identity in CFG. -/
structure PayloadLayout (s : State) : Prop where
  header : s.raw[0] = 0x75#8
  identity : ∃ wire, channelRemap ctx s.cfgChan = .next wire ∧ s.raw[1] = identityByte wire s.cfgRid
  battery : s.raw[2] = 0xCE#8 ∨ s.raw[2] = 0x0E#8
  placeholder : s.raw[3] = 0x00#8
  magnitude : isBcd s.raw[4] = true
  sign : (s.raw[5] >>> 4 = 0x4#8 ∨ s.raw[5] >>> 4 = 0xC#8) ∧ (s.raw[5] &&& 0x0F#8).toNat ≤ 9
  humidity : isBcd s.raw[6] = true
  comfort : s.raw[7] = 0xF1#8

/-- FRM, FLEN, CS1 and CS2 are the frame of repetition REP of the payload in RAW (R111). -/
def FrameOfPayload (s : State) : Prop :=
  ∃ m, markerOf ctx s.rep = some m ∧
    buildFrame ctx (loadFrame s.raw m s.frm) = .next ⟨⟨s.frm, s.cs1, s.cs2⟩, s.flen⟩

/-- A slot is on the line: the position is in bounds (R26), and LINE and W are what the byte gives (R121, R123). -/
structure SlotSound (s : State) : Prop where
  byteInFrame : s.bidx.toNat < s.flen.toNat
  slotInByte : s.slot.toNat ≤ 17
  holding : 1 ≤ s.rem.toNat ∧ s.rem.toNat ≤ 500
  level : ∃ b, readFrm s s.bidx.toNat = some b ∧ s.line = slotLevel b s.slot.toNat ∧
    (2 ≤ s.slot.toNat → s.w = workingValue b s.slot.toNat)

/-- The invariant of CTX: R22 (a valid configuration is legal), R23 and R181 (the error flag and its cause), R25 (an idle
line is low), R26 (the sequencer's bounds), R27 and R28 (the buffers hold what is being sent). -/
structure Inv (s : State) : Prop where
  live : s.refused = none
  cfgLegal : s.cfgValid = true → chanLegal s.cfgChan = true
  noError : s.cmdErr = false → s.errCause = 0#3
  errorCause : s.cmdErr = true → 1 ≤ s.errCause.toNat ∧ s.errCause.toNat ≤ 4
  idleLow : s.phase = .idle → s.line = false
  busyConfigured : s.phase ≠ .idle → s.cfgValid = true
  busyLength : s.phase ≠ .idle → s.flen = 10#6
  busyPayload : s.phase ≠ .idle → PayloadLayout s
  busyFrame : s.phase ≠ .idle → FrameOfPayload s
  slotSound : s.phase = .slot → SlotSound s
  gapSound : s.phase = .gap → s.line = false ∧ 1 ≤ s.rem.toNat ∧ s.rem.toNat ≤ 30000

/-- How many ticks are left until BUSY falls (R128): the rest of the current segment, the slots and bytes still to send,
the gap, and 120000 for each repetition still to come. -/
def ticksLeft (s : State) : Nat :=
  match s.phase with
  | .idle => 0
  | .slot =>
    s.rem.toNat + (17 - s.slot.toNat) * 500 + (s.flen.toNat - 1 - s.bidx.toNat) * 9000 + 30000
      + (2 - s.rep.toNat) * 120000
  | .gap => s.rem.toNat + (2 - s.rep.toNat) * 120000

end Sys2Proof.Machine
end

