-- ==== Sys2Proof/Certificates/Slice0/Obligations.lean ====
section
/-! DEFINITION. The statements for the provers: what the numbered rules of spec/ say CTX does. -/

open Sys2Proof Sys2Proof.Machine

/-! ## Encoding and decoding -/

/-- R71 to R73 and R77: every command, with every operand its fields can hold, has a word, and decoding that word gives
the command back. -/
def Obligations.CommandsDecodeFromTheirWords : Prop :=
  ∀ i : Instr, isCommand i = true → wellFormed i = true →
    ∃ w, encode i = some w ∧ decode w = .ok i ∧ decodeTableWord 32 w.toNat = some i

/-- R77: a word that decodes to an operation is that operation's own word, and the operation is a command. -/
def Obligations.DecodedWordsAreTheCommandsWords : Prop :=
  ∀ (w : Word) (i : Instr), decode w = .ok i → encode i = some w ∧ isCommand i = true

/-- R77: which words decode to what, in arithmetic on the word and by the masks of the opcode table; and what dispatch
makes of the two decode results that are no operation. -/
def Obligations.DecodingFollowsTheRuleOnEveryWord : Prop :=
  ∀ w : Word,
    (decode w = .error .reservedOp ↔ 4 ≤ w.toNat / 2 ^ 28) ∧
    (decode w = .error .reservedBits ↔
      ((w.toNat / 2 ^ 28 = 0 ∨ w.toNat / 2 ^ 28 = 3) ∧ w.toNat % 2 ^ 28 ≠ 0) ∨
      (w.toNat / 2 ^ 28 = 1 ∧ w.toNat % 2 ^ 28 / 2 ^ 8 ≠ 0) ∨
      (w.toNat / 2 ^ 28 = 2 ∧ w.toNat % 2 ^ 28 / 2 ^ 19 ≠ 0)) ∧
    (decode w = .ok .nop ↔ w &&& 0xFFFFFFFF#32 = 0x00000000#32) ∧
    ((∃ chan rid, decode w = .ok (.config chan rid)) ↔ w &&& 0xFFFFFF00#32 = 0x10000000#32) ∧
    ((∃ temp hum batt, decode w = .ok (.send temp hum batt)) ↔ w &&& 0xFFF80000#32 = 0x20000000#32) ∧
    (decode w = .ok .clrerr ↔ w &&& 0xFFFFFFFF#32 = 0x30000000#32) ∧
    (∀ chan rid, decode w = .ok (.config chan rid) →
      chan.toNat = w.toNat / 2 ^ 5 % 2 ^ 3 ∧ rid.toNat = w.toNat % 2 ^ 5) ∧
    (∀ temp hum batt, decode w = .ok (.send temp hum batt) →
      temp.toNat = w.toNat % 2 ^ 11 ∧
        tempValue temp = (w.toNat % 2 ^ 11 : Nat) - (if w.toNat % 2 ^ 11 < 1024 then 0 else 2048 : Int) ∧
        hum.toNat = w.toNat / 2 ^ 11 % 2 ^ 7 ∧
        (batt = true ↔ w.toNat / 2 ^ 18 % 2 = 1)) ∧
    (∀ s, decode w = .error .reservedOp → onCommand w s = .next (raiseCmdError .reservedOp s)) ∧
    (∀ s, decode w = .error .reservedBits → onCommand w s = .next (raiseCmdError .reservedBits s))

/-- R82 (an inference the spec marks as its own, from R72, R73 and R80): the words of the encoding examples, from their
assembler lines. -/
def Obligations.ExampleWordsOfTheSpec : Prop :=
  assemble (.config 2 5) = some 0x10000045#32 ∧
  assemble (.config 5 31) = some 0x100000BF#32 ∧
  assemble (.config 4 0) = some 0x10000080#32 ∧
  assemble (.send 235 34 true) = some 0x200510EB#32 ∧
  assemble (.send (-235) 34 true) = some 0x20051715#32 ∧
  assemble (.send (-5) 0 false) = some 0x200007FB#32 ∧
  assemble (.send 999 99 true) = some 0x20071BE7#32 ∧
  assemble (.send (-999) 1 false) = some 0x20000C19#32 ∧
  assemble (.send 1000 0 true) = some 0x200403E8#32 ∧
  assemble .nop = some 0x00000000#32 ∧
  assemble .clrerr = some 0x30000000#32

/-- Words written out bit by bit from R71 to R73 decode to the commands they stand for. -/
def Obligations.WordsWrittenFromTheFormatsDecode : Prop :=
  decode 0b0000_0000000000000000000000000000#32 = .ok .nop ∧
  decode 0b0011_0000000000000000000000000000#32 = .ok .clrerr ∧
  decode 0b0001_00000000000000000000_101_11110#32 = .ok (.config 5 30) ∧
  decode 0b0010_000000000_1_0100010_00011101011#32 = .ok (.send 235 34 true) ∧
  decode 0b0010_000000000_0_1100011_11111111011#32 = .ok (.send (-5) 99 false)

/-- R80: the assembler accepts exactly the operands that fit their fields, legal or not, and the word it gives decodes to
those operand values. -/
def Obligations.AssemblerAcceptsWhatFits : Prop :=
  (∀ ch id : Nat, (assemble (.config ch id)).isSome = true ↔ ch ≤ 7 ∧ id ≤ 31) ∧
  (∀ (temp : Int) (hum : Nat) (batt : Bool),
    (assemble (.send temp hum batt)).isSome = true ↔ -1024 ≤ temp ∧ temp ≤ 1023 ∧ hum ≤ 127) ∧
  (∀ (ch id : Nat) (w : Word), assemble (.config ch id) = some w →
    ∃ chan rid, decode w = .ok (.config chan rid) ∧ chanValue chan = ch ∧ ridValue rid = id) ∧
  (∀ (temp : Int) (hum : Nat) (batt : Bool) (w : Word), assemble (.send temp hum batt) = some w →
    ∃ t h, decode w = .ok (.send t h batt) ∧ tempValue t = temp ∧ humValue h = hum) ∧
  (∀ v : Nat, assemble (.word v) = if v < 2 ^ 32 then some (BitVec.ofNat 32 v) else none)

/-! ## The step, the edge, reset -/

/-- R160, R187: when the coming edge presents a word that decodes to `i`, the step is `exec i`: on the state as it
stands with no tick on the edge, on the state the tick produced with one. The edge is consumed, and nothing else is done
around it. -/
def Obligations.StepRunsTheDecodedCommand : Prop :=
  ∀ (s : State) (w : Word) (i : Instr) (es : List Edge),
    s.refused = none → decode w = .ok i →
    step { s with inputs := commandEdge w :: es } = exec i { s with inputs := es } ∧
    step { s with inputs := tickCommandEdge w :: es } =
      andThen (exec .seqTick { s with inputs := es }) (exec i) ∧
    step { s with inputs := tickEdge :: es } = exec .seqTick { s with inputs := es } ∧
    step (s.withFetchWord 32 w.toNat) = exec i s

/-- R187: reset over everything, else the tick first and the command second; a SEND on the edge whose tick ends the last
gap is accepted; a NOP never delays a tick. -/
def Obligations.ResetThenTickThenCommandOnOneEdge : Prop :=
  (∀ (s : State) (e : Edge) (es : List Edge), s.refused = none → e.rst = true →
    step { s with inputs := e :: es } = step { s with inputs := rstEdge :: es }) ∧
  (∀ (s : State) (e : Edge) (es : List Edge), s.refused = none → e.rst = false →
    step { s with inputs := e :: es } =
      andThen (if e.usTick then exec .seqTick { s with inputs := es } else .next { s with inputs := es })
        (fun t => if e.cmdValid then onCommand e.cmdWord t else .next t)) ∧
  (∀ (s : State) (w : Word) (temp : BitVec 11) (hum : BitVec 7) (batt : Bool) (es : List Edge),
    s.refused = none → s.phase = .gap → s.rep = 2#2 → s.rem = 1#16 →
    s.cfgValid = true → chanLegal s.cfgChan = true →
    decode w = .ok (.send temp hum batt) → tempLegal temp = true → humLegal hum = true →
    ∃ t, step { s with inputs := tickCommandEdge w :: es } = .next t ∧ t.phase = .slot ∧ t.rep = 0#2 ∧
      t.bidx = 0#4 ∧ t.slot = 0#5 ∧ t.rem = 500#16 ∧ t.cmdErr = s.cmdErr ∧ t.errCause = s.errCause) ∧
  (∀ (s : State) (es : List Edge), s.refused = none →
    step { s with inputs := tickCommandEdge 0#32 :: es } = step { s with inputs := tickEdge :: es })

/-- R21: an edge that carries no event leaves all state unchanged; so does an edge on which no input is scheduled. -/
def Obligations.QuietEdgesChangeNothing : Prop :=
  ∀ (s : State) (w : Word) (es : List Edge), s.refused = none →
    step { s with inputs := ⟨false, false, false, w⟩ :: es } = .next { s with inputs := es } ∧
    step { s with inputs := [] } = .next { s with inputs := [] }

/-- R160, R180, R181: a reserved word raises its cause and changes nothing else. -/
def Obligations.ReservedWordsRaiseTheirCause : Prop :=
  ∀ (s : State) (w : Word) (es : List Edge), s.refused = none →
    (4 ≤ w.toNat / 2 ^ 28 → step { s with inputs := commandEdge w :: es } =
      .next { s with inputs := es, cmdErr := true, errCause := if s.cmdErr then s.errCause else 1#3 }) ∧
    (decode w = .error .reservedBits → step { s with inputs := commandEdge w :: es } =
      .next { s with inputs := es, cmdErr := true, errCause := if s.cmdErr then s.errCause else 2#3 })

/-- R180: a command error keeps the first cause and changes nothing but the flag and the cause; a transmission in progress
goes on, tick for tick, as if the command had not been presented. -/
def Obligations.CommandErrorsLeaveTheTransmissionAlone : Prop :=
  (∀ (cause : ErrorCause) (s : State), raiseCmdError cause s =
    { s with cmdErr := true, errCause := if s.cmdErr = false then causeCode cause else s.errCause }) ∧
  (∀ (cause : ErrorCause) (n : Nat) (s t : State),
    ticks n s = .next t → ticks n (raiseCmdError cause s) = .next (raiseCmdError cause t))

/-- R180, R188: once CMD_ERR is set, a step that is neither a reset nor a CLRERR keeps the flag and the first cause. -/
def Obligations.FirstErrorCauseStaysUntilCleared : Prop :=
  ∀ (s t : State) (e : Edge) (es : List Edge),
    s.cmdErr = true → s.inputs = e :: es → e.rst = false → (e.cmdValid = true → decode e.cmdWord ≠ .ok .clrerr) →
    step s = .next t → t.cmdErr = true ∧ t.errCause = s.errCause

/-- R200: what a reset edge does, whatever else the edge carries and whatever CTX was doing; the abandoned segments are
never driven, and a SEND then needs a new CONFIG. -/
def Obligations.ResetEdgeGivesTheResetValues : Prop :=
  ∀ (s : State) (e : Edge) (es : List Edge), s.refused = none → s.inputs = e :: es → e.rst = true →
    ∃ t, step s = .next t ∧ t.line = false ∧ t.phase = .idle ∧ t.cmdErr = false ∧ t.errCause = 0#3 ∧
      t.cfgValid = false ∧ t.cfgChan = 0#3 ∧ t.cfgRid = 0#5 ∧ t.refused = none ∧ t.inputs = es ∧
      statusPort t = 0#8 ∧ (∀ n, ticks n t = .next t) ∧
      (∀ temp hum batt, exec (.send temp hum batt) t = .next { t with cmdErr := true, errCause := 4#3 })

/-- R201: the state after reset is idle, unconfigured and free of errors, the line is low, and the first edge may carry a
command. -/
def Obligations.StateAfterResetIsIdle : Prop :=
  State.reset.phase = .idle ∧ busy State.reset = false ∧ State.reset.cfgValid = false ∧
  State.reset.cmdErr = false ∧ State.reset.errCause = 0#3 ∧ State.reset.line = false ∧
  State.reset.refused = none ∧ cfgPort State.reset = 0x00#8 ∧ statusPort State.reset = 0x00#8 ∧
  (∀ (w : Word) (i : Instr), decode w = .ok i →
    step { State.reset with inputs := [commandEdge w] } = exec i State.reset)

/-- R31, R183: in a refused state no event has a meaning, reset included. That the outcome repeats the kept reason is the
model's (log entry 7). -/
def Obligations.RefusedStatesHaveNoMeaning : Prop :=
  ∀ (s : State) (r : Refusal), s.refused = some r → step s = .refused r ∧ ∀ i, exec i s = .refused r

/-- R23: the bits of the status port, and R22: the bits of the cfg port. -/
def Obligations.StatusAndCfgPortBits : Prop :=
  ∀ s : State,
    ((statusPort s).getLsbD 0 = true ↔ s.phase ≠ .idle) ∧
    (statusPort s).getLsbD 1 = s.cmdErr ∧ (statusPort s).getLsbD 2 = s.cfgValid ∧
    (statusPort s).toNat / 8 = s.errCause.toNat ∧
    (cfgPort s).toNat = s.cfgChan.toNat * 32 + s.cfgRid.toNat ∧ linePort s = s.line

/-! ## The invariant -/

/-- The state after reset meets the invariant. -/
def Obligations.ResetMeetsTheInvariant : Prop := Inv State.reset

/-- From every state that meets the invariant, reachable or not, a step that answers a next state keeps it. -/
def Obligations.EveryStepKeepsTheInvariant : Prop :=
  ∀ s t : State, Inv s → step s = .next t → Inv t

/-- R53 and R105 (their unreachability is an inference the spec marks as its own): in a sound state a legal input never
stops the machine: no index fault, no frame over the capacity, no refusal. -/
def Obligations.LegalInputsNeverStopTheMachine : Prop :=
  ∀ s : State, Inv s → nextEdgeLegal s = true → ∃ t, step s = .next t

/-! ## The commands -/

/-- R161: NOP changes no state, in every phase, and the next tick counts as usual; a nonzero low bit makes the word
ReservedBits, cause 2. -/
def Obligations.NopChangesNothing : Prop :=
  (∀ s : State, s.refused = none → exec .nop s = .next s) ∧
  (∀ s : State, s.refused = none → s.phase ≠ .idle → s.rem = 17#16 →
    andThen (exec .nop s) (exec .seqTick) = .next { s with rem := 16 }) ∧
  decode 0x00000000#32 = .ok .nop ∧
  (∀ (w : Word) (s : State), w.toNat / 2 ^ 28 = 0 → w.toNat % 2 ^ 28 ≠ 0 →
    decode w = .error .reservedBits ∧ onCommand w s = .next (raiseCmdError .reservedBits s))

/-- R162: CONFIG loads the identity while idle, is a command error of cause 3 while busy (whatever its channel), and is
refused while idle for a channel outside 1..5. -/
def Obligations.ConfigLoadsTheIdentityWhileIdle : Prop :=
  ∀ (s : State) (chan : BitVec 3) (rid : BitVec 5), s.refused = none →
    (encode (.config chan rid)).map BitVec.toNat = some (2 ^ 28 + 2 ^ 5 * chan.toNat + rid.toNat) ∧
    (s.phase = .idle → 1 ≤ chan.toNat → chan.toNat ≤ 5 →
      exec (.config chan rid) s = .next { s with cfgChan := chan, cfgRid := rid, cfgValid := true }) ∧
    (s.phase ≠ .idle → exec (.config chan rid) s =
      .next { s with cmdErr := true, errCause := if s.cmdErr then s.errCause else 3#3 }) ∧
    (s.phase = .idle → chan.toNat = 0 ∨ chan.toNat = 6 ∨ chan.toNat = 7 →
      exec (.config chan rid) s = .refused .chanRange) ∧
    (∀ t, s.phase = .idle → exec (.config 2 5) s = .next t → cfgPort t = 0x45#8 ∧ t.cfgValid = true)

/-- R163: a SEND while idle and configured, with legal operands, writes the eight payload bytes, the ten frame bytes of
repetition 0, and enters slot 0 of byte 0. -/
def Obligations.SendLoadsThePayloadAndStartsTheFirstFrame : Prop :=
  ∀ (s : State) (temp : BitVec 11) (hum : BitVec 7) (batt : Bool) (wire : BitVec 3),
    s.refused = none → s.phase = .idle → s.cfgValid = true →
    (s.cfgChan, wire) ∈ ([(1, 1), (2, 2), (3, 3), (4, 5), (5, 6)] : List (BitVec 3 × BitVec 3)) →
    temp.toInt.natAbs < 1000 → hum.toNat < 100 →
    let raw : Vector Byte 8 := #v[0x75, identityByte wire s.cfgRid, if batt then 0xCE else 0x0E, 0x00,
      tempDigits temp, tempSign ctx temp, humDigits hum, 0xF1]
    let o : Fin 8 → Byte := fun i => obscure raw[i]
    let c1 := o 1 ^^^ o 2 ^^^ o 4 ^^^ o 5 ^^^ o 6 ^^^ o 7
    let m := fun acc b => mix ctx (acc ^^^ b)
    let c2 := m (m (m (m (m (m 0 (o 1)) (o 2)) (o 4)) (o 5)) (o 6)) (o 7)
    exec (.send temp hum batt) s = .next { s with
      raw := raw
      frm := #v[0x75, o 1, o 2, 0x5E, o 4, o 5, o 6, o 7, c1, mix ctx (c1 ^^^ c2)]
      flen := 10, cs1 := c1, cs2 := c2
      rep := 0, bidx := 0, phase := .slot, slot := 0, rem := 500, line := false }

/-- R163, R182: a SEND while busy is a command error of cause 3, before any CONFIG one of cause 4, and only then is a bad
operand refused, the temperature before the humidity. The last clause, a valid configuration that holds no legal channel
(no run reaches it: R22), is the model's reading of R142 (log entry 5). -/
def Obligations.SendIsTurnedAwayInRuleOrder : Prop :=
  ∀ (s : State) (temp : BitVec 11) (hum : BitVec 7) (batt : Bool), s.refused = none →
    (s.phase ≠ .idle → exec (.send temp hum batt) s =
      .next { s with cmdErr := true, errCause := if s.cmdErr then s.errCause else 3#3 }) ∧
    (s.phase = .idle → s.cfgValid = false → exec (.send temp hum batt) s =
      .next { s with cmdErr := true, errCause := if s.cmdErr then s.errCause else 4#3 }) ∧
    (s.phase = .idle → s.cfgValid = true → 1000 ≤ temp.toInt.natAbs →
      exec (.send temp hum batt) s = .refused .tempRange) ∧
    (s.phase = .idle → s.cfgValid = true → temp.toInt.natAbs < 1000 → 100 ≤ hum.toNat →
      exec (.send temp hum batt) s = .refused .humRange) ∧
    (s.phase = .idle → s.cfgValid = true → temp.toInt.natAbs < 1000 → hum.toNat < 100 →
      s.cfgChan.toNat = 0 ∨ 6 ≤ s.cfgChan.toNat → exec (.send temp hum batt) s = .refused .chanRange)

/-- R164's pseudocode: CLRERR clears the flag and the cause, in every phase. That it touches nothing else, so that CFG_VALID
stays, is the model's reading (log entry 12, DEDUCED): R164's example `status[5:1]` = 0 says otherwise, and by R22 only reset
clears CFG_VALID. -/
def Obligations.ClrerrClearsTheError : Prop :=
  ∀ s : State, s.refused = none →
    exec .clrerr s = .next { s with cmdErr := false, errCause := 0#3 } ∧
    (s.cmdErr = false → s.errCause = 0#3 → exec .clrerr s = .next s)

/-- R114: while a transmission runs, every command word there is answers a next state that differs only in the error flag
and its cause. -/
def Obligations.NoCommandStopsATransmission : Prop :=
  ∀ (s : State) (w : Word), s.refused = none → s.phase ≠ .idle →
    ∃ (flag : Bool) (cause : BitVec 3), onCommand w s = .next { s with cmdErr := flag, errCause := cause }

/-- R22, R23: CFG changes only by CONFIG, and CFG_VALID is cleared only by reset. -/
def Obligations.OnlyConfigWritesTheConfiguration : Prop :=
  ∀ (s t : State) (e : Edge) (es : List Edge), s.inputs = e :: es → e.rst = false → step s = .next t →
    (s.cfgValid = true → t.cfgValid = true) ∧
    ((e.cmdValid = true → ∀ chan rid, decode e.cmdWord ≠ .ok (.config chan rid)) →
      t.cfgChan = s.cfgChan ∧ t.cfgRid = s.cfgRid ∧ t.cfgValid = s.cfgValid)

/-- R27: RAW changes only by a SEND (a reset leaves it unspecified). -/
def Obligations.OnlySendWritesThePayload : Prop :=
  ∀ (s t : State) (e : Edge) (es : List Edge), s.inputs = e :: es → e.rst = false →
    (e.cmdValid = true → ∀ temp hum batt, decode e.cmdWord ≠ .ok (.send temp hum batt)) →
    step s = .next t → t.raw = s.raw

/-! ## The transform -/

/-- R90 and R94, in the closed form R92 (an inference the spec marks as its own): OBSCURE returns the byte whose bit i
is the exclusive OR of bits 0 to i, and touches no register. -/
def Obligations.ObscureReturnsThePrefixParities : Prop :=
  ∀ (b : Byte) (s : State), s.refused = none →
    ∃ o : Byte, exec (.obscure b) s = .next { s with opResult := .byte o } ∧
      ∀ i, i < 8 → o.getLsbD i = (List.range (i + 1)).foldl (fun p k => p ^^ b.getLsbD k) false

/-- R92 (an inference the spec marks as its own, from R90): the closed form of OBSCURE, its linearity, that it is a
bijection, and its inverse. -/
def Obligations.ObscureIsALinearBijection : Prop :=
  (∀ (b : Byte) (i : Nat), i < 8 →
    (obscure b).getLsbD i = (List.range (i + 1)).foldl (fun p k => p ^^ b.getLsbD k) false) ∧
  (∀ a b : Byte, obscure (a ^^^ b) = obscure a ^^^ obscure b) ∧
  Function.Bijective obscure ∧
  (∀ b : Byte, b = obscure b ^^^ (obscure b <<< 1))

/-- R91, R94, with the value R91 gives P_MIX_FN (log entry 3, PRESUMED): MIX returns its byte and touches no register. -/
def Obligations.MixReturnsItsByte : Prop :=
  ∀ (b : Byte) (s : State), s.refused = none →
    let image : Nat → Byte := fun i => ([0x2E, 0x5C, 0x07, 0x0E, 0x1C, 0x38, 0x70, 0x35] : List Byte).getD i 0
    let o := (List.range 8).foldl (fun a i => if b.getLsbD i then a ^^^ image i else a) 0
    exec (.mix b) s = .next { s with opResult := .byte o }

/-- R93 (an inference the spec marks as its own), with the value R91 gives P_MIX_FN (log entry 3, PRESUMED): MIX is
linear, with these images of the single bits, these values and these two zeros. -/
def Obligations.MixIsLinearWithTheStatedImages : Prop :=
  (∀ a b : Byte, mix ctx (a ^^^ b) = mix ctx a ^^^ mix ctx b) ∧
  (List.range 8).map (fun i => mix ctx (1#8 <<< i)) = [0x2E#8, 0x5C#8, 0x07#8, 0x0E#8, 0x1C#8, 0x38#8, 0x70#8, 0x35#8] ∧
  (∀ b : Byte, (mix ctx b).getLsbD 7 = false) ∧
  ((List.range 256).map fun n => mix ctx (BitVec.ofNat 8 n)).toFinset.card = 128 ∧
  (∀ b : Byte, mix ctx b = 0#8 ↔ b = 0x00#8 ∨ b = 0x95#8)

/-! ## The frame builder and the repeater -/

/-- R101 to R105: FRAME_BUILD with a count of at most 7 obscures the bytes 1 to count but byte 3, leaves bytes 0 and 3 and
those above count + 2 as they were, appends the two checksums and sets FLEN; a larger count is refused. -/
def Obligations.FrameBuildObscuresAndAppendsTheChecksums : Prop :=
  ∀ (s : State), s.refused = none →
    let count := s.frm[2].toNat / 2 % 32
    (count ≤ 7 →
      ∃ (frm : Vector Byte 10) (c1 c2 : Byte),
        exec .frameBuild s = .next { s with frm := frm, flen := BitVec.ofNat 6 (count + 3), cs1 := c1, cs2 := c2 } ∧
        (∀ i : Fin 10, 1 ≤ i.val → i.val ≤ count → i.val ≠ 3 → frm[i] = obscure s.frm[i]) ∧
        (∀ i : Fin 10, i.val = 0 ∨ (i.val = 3 ∧ 3 ≤ count) ∨ count + 2 < i.val → frm[i] = s.frm[i]) ∧
        (∀ i : Fin 10, i.val = count + 1 → frm[i] = c1) ∧
        (∀ i : Fin 10, i.val = count + 2 → frm[i] = mix ctx (c1 ^^^ c2)) ∧
        c1 = (transformIndices ctx count).foldl (fun a i => a ^^^ obscure s.frm[i]) 0 ∧
        c2 = (transformIndices ctx count).foldl (fun a i => mix ctx (a ^^^ obscure s.frm[i])) 0) ∧
    (7 < count → exec .frameBuild s = .refused .frameCapacity)

/-- R106 (an inference the spec marks as its own, from R101 to R103): after FRAME_BUILD both checks of a receiver hold,
for every body of MIX and under both values of P_MARKER_IN_TRANSFORM. -/
def Obligations.FramesPassTheReceiversChecks : Prop :=
  ∀ (c : Config) (frm : Vector Byte 10) (f : Framed), buildFrame c frm = .next f →
    let count := countField frm[2]
    let t := transformIndices c count
    ∃ (h1 : count + 1 < 10) (h2 : count + 2 < 10),
      t.foldl (fun a i => a ^^^ f.build.frm[i]) 0 ^^^ f.build.frm[count + 1] = 0x00#8 ∧
      mix c (f.build.frm[count + 1] ^^^ t.foldl (fun a i => mix c (a ^^^ f.build.frm[i])) 0) = f.build.frm[count + 2] ∧
      f.flen.toNat = count + 3

/-- R111: REPEAT_START(r), r in 0..2, loads RAW with the marker of r, builds the frame and enters slot 0 of byte 0; RAW is
not written. -/
def Obligations.RepeatStartBuildsTheFrameOfItsMarker : Prop :=
  ∀ (s : State) (r : BitVec 2) (m : Byte), s.refused = none →
    (r, m) ∈ ([(0, 0x5E), (1, 0x9E), (2, 0xDE)] : List (BitVec 2 × Byte)) → s.raw[2].toNat / 2 % 32 = 7 →
    let o : Fin 8 → Byte := fun i => obscure s.raw[i]
    let c1 := o 1 ^^^ o 2 ^^^ o 4 ^^^ o 5 ^^^ o 6 ^^^ o 7
    let x := fun acc b => mix ctx (acc ^^^ b)
    let c2 := x (x (x (x (x (x 0 (o 1)) (o 2)) (o 4)) (o 5)) (o 6)) (o 7)
    exec (.repeatStart r) s = .next { s with
      frm := #v[s.raw[0], o 1, o 2, m, o 4, o 5, o 6, o 7, c1, mix ctx (c1 ^^^ c2)]
      flen := 10, cs1 := c1, cs2 := c2
      rep := r, bidx := 0, phase := .slot, slot := 0, rem := 500, line := false }

/-- R111 for every payload: REPEAT_START(r), r in 0..2, is the copy with the marker, FRAME_BUILD on it, and the entry of
slot 0 of byte 0; so it is refused exactly when FRAME_BUILD is. -/
def Obligations.RepeatStartRunsFrameBuildOnTheMarkedCopy : Prop :=
  ∀ (s : State) (r : BitVec 2) (m : Byte), s.refused = none →
    (r, m) ∈ ([(0, 0x5E), (1, 0x9E), (2, 0xDE)] : List (BitVec 2 × Byte)) →
    let frm : Vector Byte 10 := #v[s.raw[0], s.raw[1], s.raw[2], m, s.raw[4], s.raw[5], s.raw[6], s.raw[7], s.frm[8], s.frm[9]]
    exec (.repeatStart r) s = andThen (exec .frameBuild { s with frm := frm }) fun t =>
      .next { t with rep := r, bidx := 0, phase := .slot, slot := 0, rem := 500, line := false }

/-- R115 (an inference the spec marks as its own, from R110, R111 and R101): the frames of two repetitions of one
payload are equal in every byte but byte 3, which holds the markers. -/
def Obligations.FramesDifferOnlyInTheMarker : Prop :=
  ∀ (s t u : State) (r q : BitVec 2), countField s.raw[2] = 7 →
    exec (.repeatStart r) s = .next t → exec (.repeatStart q) s = .next u →
    (∀ i : Fin 10, i.val ≠ 3 → t.frm[i] = u.frm[i]) ∧
    some t.frm[3] = ([0x5E#8, 0x9E#8, 0xDE#8] : List Byte)[r.toNat]?

/-! ## The line encoder and the sequencer -/

/-- R120 and R121, in the closed form R123 (an inference the spec marks as its own): BYTE_SERIALIZE drives 18 slots of
500 ticks: low, high, then each bit of FRM[BIDX], least significant first, and its complement. -/
def Obligations.ByteSerializeDrivesEachBitAndItsComplement : Prop :=
  ∀ (s : State) (b : Byte), s.refused = none → s.bidx.toNat < 10 → readFrm s s.bidx.toNat = some b →
    let data : List Segment := (List.range 8).flatMap fun k => [⟨b.getLsbD k, 500⟩, ⟨!b.getLsbD k, 500⟩]
    exec .byteSerialize s = .next { s with
      phase := .slot, slot := 17, rem := 0, line := !b.getLsbD 7, w := 0
      opResult := .segments ([⟨false, 500⟩, ⟨true, 500⟩] ++ data) }

/-- R120, R124, R165: from slot 0 of a byte, 9000 ticks of the sequencer do what BYTE_SERIALIZE does, and then what follows
the byte. That BYTE_SERIALIZE run as a step ends where slot 17 ends is the model's choice (log entry 8). -/
def Obligations.TicksRefineByteSerialize : Prop :=
  ∀ s s0 : State, s.refused = none → s.bidx.toNat < 10 → enterSlot ctx 0 s = .next s0 →
    ticks 9000 s0 = andThen (exec .byteSerialize s0) fun t => endOfByte ctx { t with opResult := s.opResult }

/-- R127 (an inference the spec marks as its own, from R123): every data bit has a level change in the middle of its
slot pair, and between two bits the line changes exactly when the bits are equal; the start condition is the pattern of
a 0 bit. -/
def Obligations.EveryDataBitHasItsTransition : Prop :=
  ∀ b : Byte,
    (∀ k, k < 8 → slotLevel b (2 + 2 * k) = b.getLsbD k ∧ slotLevel b (3 + 2 * k) = !b.getLsbD k) ∧
    (∀ k, k < 7 → (slotLevel b (3 + 2 * k) ≠ slotLevel b (4 + 2 * k) ↔ b.getLsbD k = b.getLsbD (k + 1))) ∧
    (slotLevel b 0 = slotLevel 0x00#8 2 ∧ slotLevel b 1 = slotLevel 0x00#8 3)

/-- R209 (an inference the spec marks as its own), with the value R91 gives P_MIX_FN (log entry 3, PRESUMED): in a sound
state the last half-slot of a frame is high. -/
def Obligations.LastHalfSlotOfAFrameIsHigh : Prop :=
  ∀ s : State, Inv s → s.phase = .slot → s.bidx = 9#4 → s.slot = 17#5 → s.line = true

/-- An index outside its array is the index fault of this model (log entry 6, DEDUCED from R53): BYTE_SERIALIZE and the
tick that enters slot 2 with BIDX above 9, and REPEAT_START(3). -/
def Obligations.IndicesOutsideTheArraysFault : Prop :=
  ∀ s : State, s.refused = none →
    (10 ≤ s.bidx.toNat → exec .byteSerialize s = .fault .indexRange) ∧
    (10 ≤ s.bidx.toNat → s.phase = .slot → s.rem = 1#16 → s.slot = 1#5 → exec .seqTick s = .fault .indexRange) ∧
    exec (.repeatStart 3) s = .fault .indexRange

/-- R167: a tick while idle changes no state, however many arrive. -/
def Obligations.TicksWhileIdleChangeNothing : Prop :=
  ∀ (s : State) (n : Nat), s.refused = none → s.phase = .idle →
    exec .seqTick s = .next s ∧ ticks n s = .next s

/-- R165: a tick that does not bring REM to 0 only counts REM down. -/
def Obligations.TicksHoldTheSegment : Prop :=
  ∀ s : State, s.refused = none → s.phase ≠ .idle → 1 < s.rem.toNat →
    exec .seqTick s = .next { s with rem := BitVec.ofNat 16 (s.rem.toNat - 1) }

/-- R121, R165, R166: the tick that ends a slot below 17 enters the next slot of the same byte. -/
def Obligations.TickEndingASlotEntersTheNext : Prop :=
  ∀ s : State, s.refused = none → s.phase = .slot → s.rem = 1#16 →
    (s.slot = 0#5 → exec .seqTick s = .next { s with slot := 1, rem := 500, line := true }) ∧
    (∀ b, s.slot = 1#5 → readFrm s s.bidx.toNat = some b →
      exec .seqTick s = .next { s with slot := 2, rem := 500, w := b, line := b.getLsbD 0 }) ∧
    (2 ≤ s.slot.toNat → s.slot.toNat < 17 → s.slot.toNat % 2 = 0 →
      exec .seqTick s = .next { s with slot := s.slot + 1, rem := 500, w := ~~~s.w, line := !s.w.getLsbD 0 }) ∧
    (2 ≤ s.slot.toNat → s.slot.toNat < 17 → s.slot.toNat % 2 = 1 →
      exec .seqTick s =
        .next { s with slot := s.slot + 1, rem := 500, w := ~~~s.w >>> 1, line := !s.w.getLsbD 1 })

/-- R112, R124, R165: the tick that ends slot 17 enters slot 0 of the next byte, or the gap after the frame's last byte.
-/
def Obligations.TickEndingAByteEntersTheNextOrTheGap : Prop :=
  ∀ s : State, s.refused = none → s.phase = .slot → s.rem = 1#16 → s.slot = 17#5 →
    (s.bidx.toNat + 1 < s.flen.toNat → exec .seqTick s =
      .next { s with bidx := s.bidx + 1, slot := 0, rem := 500, line := false, w := ~~~s.w >>> 1 }) ∧
    (s.flen.toNat ≤ s.bidx.toNat + 1 → exec .seqTick s =
      .next { s with phase := .gap, rem := 30000, line := false, w := ~~~s.w >>> 1 })

/-- R113: the tick that ends a gap starts the next repetition in the same event, or ends the transmission after the last
one: PHASE becomes IDLE and LINE stays. -/
def Obligations.TickEndingAGapStartsTheNextFrameOrEnds : Prop :=
  ∀ s : State, s.refused = none → s.phase = .gap → s.rem = 1#16 →
    (s.rep.toNat < 2 → exec .seqTick s = exec (.repeatStart (s.rep + 1)) { s with rem := 0 }) ∧
    (s.rep = 2#2 → exec .seqTick s = .next { s with phase := .idle, rem := 0 } ∧
      busy { s with phase := .idle, rem := 0 } = false)

/-- A run of the host's machine over edges that carry ticks is the same as that many ticks of the sequencer. -/
def Obligations.RunsOfTickEdgesAreTicks : Prop :=
  ∀ (n : Nat) (s : State) (es : List Edge),
    Sys2Proof.core.run n { s with inputs := List.replicate n tickEdge ++ es } = ticks n { s with inputs := es }

/-- R128 (an inference the spec marks as its own, from R120 and R124): 18 slots and 9000 ticks to a byte, 90000 to a
frame, 120000 with its gap, 360000 to a SEND. -/
def Obligations.SegmentCountsAndDurations : Prop :=
  (∀ b : Byte, (byteTrace ctx b).length = 18 ∧ totalTicks (byteTrace ctx b) = 9000) ∧
  (∀ (raw : Vector Byte 8) (m : Byte), countField raw[2] = 7 →
    ∃ bytes, frameBytes ctx raw m = .next bytes ∧ bytes.length = 10 ∧
      totalTicks (bytes.flatMap (byteTrace ctx)) = 90000 ∧ totalTicks (frameTrace ctx bytes) = 120000) ∧
  (∀ raw : Vector Byte 8, countField raw[2] = 7 →
    ∃ l, lineTrace ctx raw = .next l ∧ totalTicks l = 360000 ∧ l.length = 543)

/-- R128 and R168 (inferences the spec marks as its own): in a sound busy state every tick takes exactly one off the
ticks left; at 0 the machine is idle with the line low. -/
def Obligations.EveryTickTakesOneOffTheTicksLeft : Prop :=
  (∀ s : State, Inv s → s.phase ≠ .idle →
    ∃ t, exec .seqTick s = .next t ∧ ticksLeft t + 1 = ticksLeft s ∧ ticksLeft s ≤ 360000) ∧
  (∀ s : State, Inv s → ∃ t, ticks (ticksLeft s) s = .next t ∧ t.phase = .idle ∧ t.line = false ∧ t.raw = s.raw)

/-- R125 and R168 (inferences the spec marks as its own): from an accepted SEND on, the line follows the segments of
`LT(RAW)` one after another, each for its full duration, BUSY is 1 until the last one ends, and then CTX is idle with
the line low. -/
def Obligations.SendDrivesItsLineTrace : Prop :=
  ∀ (s : State) (temp : BitVec 11) (hum : BitVec 7) (batt : Bool),
    s.refused = none → s.phase = .idle → s.cfgValid = true → chanLegal s.cfgChan = true →
    tempLegal temp = true → humLegal hum = true →
    ∃ (s0 : State) (l : List Segment), exec (.send temp hum batt) s = .next s0 ∧ lineTrace ctx s0.raw = .next l ∧
      (∀ (before after : List Segment) (g : Segment) (j : Nat), l = before ++ g :: after → j < g.ticks →
        ∃ t, ticks (totalTicks before + j) s0 = .next t ∧ t.line = g.level ∧ t.rem.toNat = g.ticks - j ∧
          busy t = true) ∧
      ∃ t, ticks (totalTicks l) s0 = .next t ∧ busy t = false ∧ t.line = false ∧ t.raw = s0.raw

/-! ## The payload encoder -/

/-- R142: CHANNEL_REMAP on 1..5 returns the wire channel and touches no register; other operands, which R142 calls
undefined, are refused (log entry 5, DEDUCED). -/
def Obligations.ChannelRemapReturnsTheWireChannel : Prop :=
  ∀ (s : State) (ch : BitVec 3), s.refused = none →
    (1 ≤ ch.toNat → ch.toNat ≤ 5 → exec (.channelRemap ch) s =
      .next { s with opResult := .channel (BitVec.ofNat 3 (if ch.toNat ≤ 3 then ch.toNat else ch.toNat + 1)) }) ∧
    (ch.toNat = 0 ∨ 6 ≤ ch.toNat → exec (.channelRemap ch) s = .refused .chanRange)

/-- R146, R147: TEMP_ENCODE writes the digits of the magnitude and the sign marker into RAW[4] and RAW[5] and nothing
else; an out-of-range magnitude is refused (R150). -/
def Obligations.TempEncodeWritesDigitsAndSign : Prop :=
  ∀ (s : State) (temp : BitVec 11), s.refused = none →
    let m := temp.toInt.natAbs
    (m < 1000 →
      ∃ raw : Vector Byte 8, exec (.tempEncode temp) s = .next { s with raw := raw } ∧
        (∀ i : Fin 8, i.val ≠ 4 → i.val ≠ 5 → raw[i] = s.raw[i]) ∧
        raw[4].toNat = 16 * (m / 10 % 10) + m % 10 ∧
        raw[5].toNat = 16 * (if temp.toInt < 0 then 4 else 12) + m / 100) ∧
    (1000 ≤ m → exec (.tempEncode temp) s = .refused .tempRange)

/-- R148: HUM_ENCODE writes the two digits into RAW[6] and nothing else; HUM of 100 or more is refused (R150). -/
def Obligations.HumEncodeWritesItsDigits : Prop :=
  ∀ (s : State) (hum : BitVec 7), s.refused = none →
    (hum.toNat < 100 →
      ∃ raw : Vector Byte 8, exec (.humEncode hum) s = .next { s with raw := raw } ∧
        (∀ i : Fin 8, i.val ≠ 6 → raw[i] = s.raw[i]) ∧
        raw[6].toNat = 16 * (hum.toNat / 10) + hum.toNat % 10) ∧
    (100 ≤ hum.toNat → exec (.humEncode hum) s = .refused .humRange)

/-- R141 to R151: PAYLOAD_ENCODE writes the eight bytes of RAW and nothing else; out-of-range operands are refused, the
temperature before the humidity (R150); a CFG_CHAN outside 1..5 is refused as CHANNEL_REMAP refuses it (log entry 5). -/
def Obligations.PayloadEncodeWritesTheEightBytes : Prop :=
  ∀ (s : State) (temp : BitVec 11) (hum : BitVec 7) (batt : Bool), s.refused = none →
    let m := temp.toInt.natAbs
    (1 ≤ s.cfgChan.toNat → s.cfgChan.toNat ≤ 5 → m < 1000 → hum.toNat < 100 →
      ∃ raw : Vector Byte 8, exec (.payloadEncode temp hum batt) s = .next { s with raw := raw } ∧
        raw[0].toNat = 0x75 ∧
        raw[1].toNat = 32 * (if s.cfgChan.toNat ≤ 3 then s.cfgChan.toNat else s.cfgChan.toNat + 1) + s.cfgRid.toNat ∧
        raw[2].toNat = (if batt then 0xCE else 0x0E) ∧ raw[3].toNat = 0 ∧
        raw[4].toNat = 16 * (m / 10 % 10) + m % 10 ∧
        raw[5].toNat = 16 * (if temp.toInt < 0 then 4 else 12) + m / 100 ∧
        raw[6].toNat = 16 * (hum.toNat / 10) + hum.toNat % 10 ∧ raw[7].toNat = 0xF1) ∧
    (1000 ≤ m → exec (.payloadEncode temp hum batt) s = .refused .tempRange) ∧
    (m < 1000 → 100 ≤ hum.toNat → exec (.payloadEncode temp hum batt) s = .refused .humRange) ∧
    (m < 1000 → hum.toNat < 100 → s.cfgChan.toNat = 0 ∨ 6 ≤ s.cfgChan.toNat →
      exec (.payloadEncode temp hum batt) s = .refused .chanRange)

/-- R152 (an inference the spec marks as its own): what a receiver computes from the bytes inverts TEMP_ENCODE and
HUM_ENCODE on their legal ranges. -/
def Obligations.ReceiverRecoversTheReading : Prop :=
  (∀ temp : BitVec 11, tempLegal temp = true →
    let p := (tempDigits temp).toNat
    let q := (tempSign ctx temp).toNat
    tempValue temp = (if (tempSign ctx temp).getLsbD 7 then 1 else -1) *
      ((100 * (q % 16) + 10 * (p / 16) + p % 16 : Nat) : Int)) ∧
  (∀ hum : BitVec 7, humLegal hum = true →
    humValue hum = 10 * ((humDigits hum).toNat / 16) + (humDigits hum).toNat % 16)

/-! ## The host program -/

/-- R81: a command line is its word on an edge of its own, with a tick first only if the line says so; TICKS, RESET and READ;
and WAITIDLE lets ticks pass until BUSY = 0, from every state. That BUSY = 1 before each tick it takes, so that it takes none
when idle already, is the model's reading (log entry 13, DEDUCED): the poll of `status[0]` comes before each tick. -/
def Obligations.HostScriptLinesActAsTheirEvents : Prop :=
  ∀ s : State, s.refused = none →
    (∀ (a : AsmLine) (w : Word) (withTick : Bool), assemble a = some w →
      runLine (.command a withTick) s =
        some (andThen (andThen (if withTick then exec .seqTick s else .next s) (onCommand w)) fun t => .next ⟨t, none, none⟩)) ∧
    (∀ n, runLine (.ticks n) s = some (andThen (ticks n s) fun t => .next ⟨t, none, none⟩)) ∧
    (∀ r, runLine .waitIdle s = some (.next r) →
      busy r.state = false ∧ r.sample = none ∧ ∃ n, r.waited = some n ∧ ticks n s = .next r.state ∧
        ∀ k, k < n → ∃ u, ticks k s = .next u ∧ busy u = true) ∧
    runLine .reset s = some (.next ⟨resetEdge s, none, none⟩) ∧
    runLine .read s = some (.next ⟨s, none, some ⟨s.line, statusPort s, cfgPort s⟩⟩)

/-- R81 with R128 and R168 (inferences the spec marks as its own): from a sound state WAITIDLE takes exactly the ticks left,
and ends idle with the line low and the payload as it was. That it takes none when idle already is the model's reading (log
entry 13, DEDUCED). -/
def Obligations.WaitIdleTakesTheTicksLeft : Prop :=
  ∀ s : State, Inv s →
    ∃ t, runLine .waitIdle s = some (.next ⟨t, some (ticksLeft s), none⟩) ∧ t.phase = .idle ∧ t.line = false ∧ t.raw = s.raw
end

