-- ==== Sys2Proof/Laws/State.lean ====
section
/-! SUPPORT. One lemma for each field under each register update, so that no proof unfolds an update. -/

namespace Sys2Proof.Machine

variable (s : State)

/-! `State.setCfg` -/

@[simp] theorem State.setCfg_line (chan : BitVec 3) (rid : BitVec 5) : (s.setCfg chan rid).line = s.line := rfl
@[simp] theorem State.setCfg_phase (chan : BitVec 3) (rid : BitVec 5) : (s.setCfg chan rid).phase = s.phase := rfl
@[simp] theorem State.setCfg_rep (chan : BitVec 3) (rid : BitVec 5) : (s.setCfg chan rid).rep = s.rep := rfl
@[simp] theorem State.setCfg_bidx (chan : BitVec 3) (rid : BitVec 5) : (s.setCfg chan rid).bidx = s.bidx := rfl
@[simp] theorem State.setCfg_slot (chan : BitVec 3) (rid : BitVec 5) : (s.setCfg chan rid).slot = s.slot := rfl
@[simp] theorem State.setCfg_rem (chan : BitVec 3) (rid : BitVec 5) : (s.setCfg chan rid).rem = s.rem := rfl
@[simp] theorem State.setCfg_cmdErr (chan : BitVec 3) (rid : BitVec 5) : (s.setCfg chan rid).cmdErr = s.cmdErr := rfl
@[simp] theorem State.setCfg_errCause (chan : BitVec 3) (rid : BitVec 5) :
    (s.setCfg chan rid).errCause = s.errCause := rfl
@[simp] theorem State.setCfg_cfgValid (chan : BitVec 3) (rid : BitVec 5) : (s.setCfg chan rid).cfgValid = true := rfl
@[simp] theorem State.setCfg_cfgChan (chan : BitVec 3) (rid : BitVec 5) : (s.setCfg chan rid).cfgChan = chan := rfl
@[simp] theorem State.setCfg_cfgRid (chan : BitVec 3) (rid : BitVec 5) : (s.setCfg chan rid).cfgRid = rid := rfl
@[simp] theorem State.setCfg_raw (chan : BitVec 3) (rid : BitVec 5) : (s.setCfg chan rid).raw = s.raw := rfl
@[simp] theorem State.setCfg_frm (chan : BitVec 3) (rid : BitVec 5) : (s.setCfg chan rid).frm = s.frm := rfl
@[simp] theorem State.setCfg_flen (chan : BitVec 3) (rid : BitVec 5) : (s.setCfg chan rid).flen = s.flen := rfl
@[simp] theorem State.setCfg_cs1 (chan : BitVec 3) (rid : BitVec 5) : (s.setCfg chan rid).cs1 = s.cs1 := rfl
@[simp] theorem State.setCfg_cs2 (chan : BitVec 3) (rid : BitVec 5) : (s.setCfg chan rid).cs2 = s.cs2 := rfl
@[simp] theorem State.setCfg_w (chan : BitVec 3) (rid : BitVec 5) : (s.setCfg chan rid).w = s.w := rfl
@[simp] theorem State.setCfg_refused (chan : BitVec 3) (rid : BitVec 5) :
    (s.setCfg chan rid).refused = s.refused := rfl
@[simp] theorem State.setCfg_opResult (chan : BitVec 3) (rid : BitVec 5) :
    (s.setCfg chan rid).opResult = s.opResult := rfl
@[simp] theorem State.setCfg_inputs (chan : BitVec 3) (rid : BitVec 5) : (s.setCfg chan rid).inputs = s.inputs := rfl
@[simp] theorem State.setCfg_draws (chan : BitVec 3) (rid : BitVec 5) : (s.setCfg chan rid).draws = s.draws := rfl

/-! `State.setRem` -/

@[simp] theorem State.setRem_line (n : BitVec 16) : (s.setRem n).line = s.line := rfl
@[simp] theorem State.setRem_phase (n : BitVec 16) : (s.setRem n).phase = s.phase := rfl
@[simp] theorem State.setRem_rep (n : BitVec 16) : (s.setRem n).rep = s.rep := rfl
@[simp] theorem State.setRem_bidx (n : BitVec 16) : (s.setRem n).bidx = s.bidx := rfl
@[simp] theorem State.setRem_slot (n : BitVec 16) : (s.setRem n).slot = s.slot := rfl
@[simp] theorem State.setRem_rem (n : BitVec 16) : (s.setRem n).rem = n := rfl
@[simp] theorem State.setRem_cmdErr (n : BitVec 16) : (s.setRem n).cmdErr = s.cmdErr := rfl
@[simp] theorem State.setRem_errCause (n : BitVec 16) : (s.setRem n).errCause = s.errCause := rfl
@[simp] theorem State.setRem_cfgValid (n : BitVec 16) : (s.setRem n).cfgValid = s.cfgValid := rfl
@[simp] theorem State.setRem_cfgChan (n : BitVec 16) : (s.setRem n).cfgChan = s.cfgChan := rfl
@[simp] theorem State.setRem_cfgRid (n : BitVec 16) : (s.setRem n).cfgRid = s.cfgRid := rfl
@[simp] theorem State.setRem_raw (n : BitVec 16) : (s.setRem n).raw = s.raw := rfl
@[simp] theorem State.setRem_frm (n : BitVec 16) : (s.setRem n).frm = s.frm := rfl
@[simp] theorem State.setRem_flen (n : BitVec 16) : (s.setRem n).flen = s.flen := rfl
@[simp] theorem State.setRem_cs1 (n : BitVec 16) : (s.setRem n).cs1 = s.cs1 := rfl
@[simp] theorem State.setRem_cs2 (n : BitVec 16) : (s.setRem n).cs2 = s.cs2 := rfl
@[simp] theorem State.setRem_w (n : BitVec 16) : (s.setRem n).w = s.w := rfl
@[simp] theorem State.setRem_refused (n : BitVec 16) : (s.setRem n).refused = s.refused := rfl
@[simp] theorem State.setRem_opResult (n : BitVec 16) : (s.setRem n).opResult = s.opResult := rfl
@[simp] theorem State.setRem_inputs (n : BitVec 16) : (s.setRem n).inputs = s.inputs := rfl
@[simp] theorem State.setRem_draws (n : BitVec 16) : (s.setRem n).draws = s.draws := rfl

/-! `State.setW` -/

@[simp] theorem State.setW_line (v : Byte) : (s.setW v).line = s.line := rfl
@[simp] theorem State.setW_phase (v : Byte) : (s.setW v).phase = s.phase := rfl
@[simp] theorem State.setW_rep (v : Byte) : (s.setW v).rep = s.rep := rfl
@[simp] theorem State.setW_bidx (v : Byte) : (s.setW v).bidx = s.bidx := rfl
@[simp] theorem State.setW_slot (v : Byte) : (s.setW v).slot = s.slot := rfl
@[simp] theorem State.setW_rem (v : Byte) : (s.setW v).rem = s.rem := rfl
@[simp] theorem State.setW_cmdErr (v : Byte) : (s.setW v).cmdErr = s.cmdErr := rfl
@[simp] theorem State.setW_errCause (v : Byte) : (s.setW v).errCause = s.errCause := rfl
@[simp] theorem State.setW_cfgValid (v : Byte) : (s.setW v).cfgValid = s.cfgValid := rfl
@[simp] theorem State.setW_cfgChan (v : Byte) : (s.setW v).cfgChan = s.cfgChan := rfl
@[simp] theorem State.setW_cfgRid (v : Byte) : (s.setW v).cfgRid = s.cfgRid := rfl
@[simp] theorem State.setW_raw (v : Byte) : (s.setW v).raw = s.raw := rfl
@[simp] theorem State.setW_frm (v : Byte) : (s.setW v).frm = s.frm := rfl
@[simp] theorem State.setW_flen (v : Byte) : (s.setW v).flen = s.flen := rfl
@[simp] theorem State.setW_cs1 (v : Byte) : (s.setW v).cs1 = s.cs1 := rfl
@[simp] theorem State.setW_cs2 (v : Byte) : (s.setW v).cs2 = s.cs2 := rfl
@[simp] theorem State.setW_w (v : Byte) : (s.setW v).w = v := rfl
@[simp] theorem State.setW_refused (v : Byte) : (s.setW v).refused = s.refused := rfl
@[simp] theorem State.setW_opResult (v : Byte) : (s.setW v).opResult = s.opResult := rfl
@[simp] theorem State.setW_inputs (v : Byte) : (s.setW v).inputs = s.inputs := rfl
@[simp] theorem State.setW_draws (v : Byte) : (s.setW v).draws = s.draws := rfl

/-! `State.setLine` -/

@[simp] theorem State.setLine_line (v : Bool) : (s.setLine v).line = v := rfl
@[simp] theorem State.setLine_phase (v : Bool) : (s.setLine v).phase = s.phase := rfl
@[simp] theorem State.setLine_rep (v : Bool) : (s.setLine v).rep = s.rep := rfl
@[simp] theorem State.setLine_bidx (v : Bool) : (s.setLine v).bidx = s.bidx := rfl
@[simp] theorem State.setLine_slot (v : Bool) : (s.setLine v).slot = s.slot := rfl
@[simp] theorem State.setLine_rem (v : Bool) : (s.setLine v).rem = s.rem := rfl
@[simp] theorem State.setLine_cmdErr (v : Bool) : (s.setLine v).cmdErr = s.cmdErr := rfl
@[simp] theorem State.setLine_errCause (v : Bool) : (s.setLine v).errCause = s.errCause := rfl
@[simp] theorem State.setLine_cfgValid (v : Bool) : (s.setLine v).cfgValid = s.cfgValid := rfl
@[simp] theorem State.setLine_cfgChan (v : Bool) : (s.setLine v).cfgChan = s.cfgChan := rfl
@[simp] theorem State.setLine_cfgRid (v : Bool) : (s.setLine v).cfgRid = s.cfgRid := rfl
@[simp] theorem State.setLine_raw (v : Bool) : (s.setLine v).raw = s.raw := rfl
@[simp] theorem State.setLine_frm (v : Bool) : (s.setLine v).frm = s.frm := rfl
@[simp] theorem State.setLine_flen (v : Bool) : (s.setLine v).flen = s.flen := rfl
@[simp] theorem State.setLine_cs1 (v : Bool) : (s.setLine v).cs1 = s.cs1 := rfl
@[simp] theorem State.setLine_cs2 (v : Bool) : (s.setLine v).cs2 = s.cs2 := rfl
@[simp] theorem State.setLine_w (v : Bool) : (s.setLine v).w = s.w := rfl
@[simp] theorem State.setLine_refused (v : Bool) : (s.setLine v).refused = s.refused := rfl
@[simp] theorem State.setLine_opResult (v : Bool) : (s.setLine v).opResult = s.opResult := rfl
@[simp] theorem State.setLine_inputs (v : Bool) : (s.setLine v).inputs = s.inputs := rfl
@[simp] theorem State.setLine_draws (v : Bool) : (s.setLine v).draws = s.draws := rfl

/-! `State.startSlot` -/

@[simp] theorem State.startSlot_line (k : BitVec 5) (n : BitVec 16) : (s.startSlot k n).line = s.line := rfl
@[simp] theorem State.startSlot_phase (k : BitVec 5) (n : BitVec 16) : (s.startSlot k n).phase = .slot := rfl
@[simp] theorem State.startSlot_rep (k : BitVec 5) (n : BitVec 16) : (s.startSlot k n).rep = s.rep := rfl
@[simp] theorem State.startSlot_bidx (k : BitVec 5) (n : BitVec 16) : (s.startSlot k n).bidx = s.bidx := rfl
@[simp] theorem State.startSlot_slot (k : BitVec 5) (n : BitVec 16) : (s.startSlot k n).slot = k := rfl
@[simp] theorem State.startSlot_rem (k : BitVec 5) (n : BitVec 16) : (s.startSlot k n).rem = n := rfl
@[simp] theorem State.startSlot_cmdErr (k : BitVec 5) (n : BitVec 16) : (s.startSlot k n).cmdErr = s.cmdErr := rfl
@[simp] theorem State.startSlot_errCause (k : BitVec 5) (n : BitVec 16) :
    (s.startSlot k n).errCause = s.errCause := rfl
@[simp] theorem State.startSlot_cfgValid (k : BitVec 5) (n : BitVec 16) :
    (s.startSlot k n).cfgValid = s.cfgValid := rfl
@[simp] theorem State.startSlot_cfgChan (k : BitVec 5) (n : BitVec 16) : (s.startSlot k n).cfgChan = s.cfgChan := rfl
@[simp] theorem State.startSlot_cfgRid (k : BitVec 5) (n : BitVec 16) : (s.startSlot k n).cfgRid = s.cfgRid := rfl
@[simp] theorem State.startSlot_raw (k : BitVec 5) (n : BitVec 16) : (s.startSlot k n).raw = s.raw := rfl
@[simp] theorem State.startSlot_frm (k : BitVec 5) (n : BitVec 16) : (s.startSlot k n).frm = s.frm := rfl
@[simp] theorem State.startSlot_flen (k : BitVec 5) (n : BitVec 16) : (s.startSlot k n).flen = s.flen := rfl
@[simp] theorem State.startSlot_cs1 (k : BitVec 5) (n : BitVec 16) : (s.startSlot k n).cs1 = s.cs1 := rfl
@[simp] theorem State.startSlot_cs2 (k : BitVec 5) (n : BitVec 16) : (s.startSlot k n).cs2 = s.cs2 := rfl
@[simp] theorem State.startSlot_w (k : BitVec 5) (n : BitVec 16) : (s.startSlot k n).w = s.w := rfl
@[simp] theorem State.startSlot_refused (k : BitVec 5) (n : BitVec 16) : (s.startSlot k n).refused = s.refused := rfl
@[simp] theorem State.startSlot_opResult (k : BitVec 5) (n : BitVec 16) :
    (s.startSlot k n).opResult = s.opResult := rfl
@[simp] theorem State.startSlot_inputs (k : BitVec 5) (n : BitVec 16) : (s.startSlot k n).inputs = s.inputs := rfl
@[simp] theorem State.startSlot_draws (k : BitVec 5) (n : BitVec 16) : (s.startSlot k n).draws = s.draws := rfl

/-! `State.startGap` -/

@[simp] theorem State.startGap_line (n : BitVec 16) : (s.startGap n).line = false := rfl
@[simp] theorem State.startGap_phase (n : BitVec 16) : (s.startGap n).phase = .gap := rfl
@[simp] theorem State.startGap_rep (n : BitVec 16) : (s.startGap n).rep = s.rep := rfl
@[simp] theorem State.startGap_bidx (n : BitVec 16) : (s.startGap n).bidx = s.bidx := rfl
@[simp] theorem State.startGap_slot (n : BitVec 16) : (s.startGap n).slot = s.slot := rfl
@[simp] theorem State.startGap_rem (n : BitVec 16) : (s.startGap n).rem = n := rfl
@[simp] theorem State.startGap_cmdErr (n : BitVec 16) : (s.startGap n).cmdErr = s.cmdErr := rfl
@[simp] theorem State.startGap_errCause (n : BitVec 16) : (s.startGap n).errCause = s.errCause := rfl
@[simp] theorem State.startGap_cfgValid (n : BitVec 16) : (s.startGap n).cfgValid = s.cfgValid := rfl
@[simp] theorem State.startGap_cfgChan (n : BitVec 16) : (s.startGap n).cfgChan = s.cfgChan := rfl
@[simp] theorem State.startGap_cfgRid (n : BitVec 16) : (s.startGap n).cfgRid = s.cfgRid := rfl
@[simp] theorem State.startGap_raw (n : BitVec 16) : (s.startGap n).raw = s.raw := rfl
@[simp] theorem State.startGap_frm (n : BitVec 16) : (s.startGap n).frm = s.frm := rfl
@[simp] theorem State.startGap_flen (n : BitVec 16) : (s.startGap n).flen = s.flen := rfl
@[simp] theorem State.startGap_cs1 (n : BitVec 16) : (s.startGap n).cs1 = s.cs1 := rfl
@[simp] theorem State.startGap_cs2 (n : BitVec 16) : (s.startGap n).cs2 = s.cs2 := rfl
@[simp] theorem State.startGap_w (n : BitVec 16) : (s.startGap n).w = s.w := rfl
@[simp] theorem State.startGap_refused (n : BitVec 16) : (s.startGap n).refused = s.refused := rfl
@[simp] theorem State.startGap_opResult (n : BitVec 16) : (s.startGap n).opResult = s.opResult := rfl
@[simp] theorem State.startGap_inputs (n : BitVec 16) : (s.startGap n).inputs = s.inputs := rfl
@[simp] theorem State.startGap_draws (n : BitVec 16) : (s.startGap n).draws = s.draws := rfl

/-! `State.setIdle` -/

@[simp] theorem State.setIdle_line : (s.setIdle).line = s.line := rfl
@[simp] theorem State.setIdle_phase : (s.setIdle).phase = .idle := rfl
@[simp] theorem State.setIdle_rep : (s.setIdle).rep = s.rep := rfl
@[simp] theorem State.setIdle_bidx : (s.setIdle).bidx = s.bidx := rfl
@[simp] theorem State.setIdle_slot : (s.setIdle).slot = s.slot := rfl
@[simp] theorem State.setIdle_rem : (s.setIdle).rem = s.rem := rfl
@[simp] theorem State.setIdle_cmdErr : (s.setIdle).cmdErr = s.cmdErr := rfl
@[simp] theorem State.setIdle_errCause : (s.setIdle).errCause = s.errCause := rfl
@[simp] theorem State.setIdle_cfgValid : (s.setIdle).cfgValid = s.cfgValid := rfl
@[simp] theorem State.setIdle_cfgChan : (s.setIdle).cfgChan = s.cfgChan := rfl
@[simp] theorem State.setIdle_cfgRid : (s.setIdle).cfgRid = s.cfgRid := rfl
@[simp] theorem State.setIdle_raw : (s.setIdle).raw = s.raw := rfl
@[simp] theorem State.setIdle_frm : (s.setIdle).frm = s.frm := rfl
@[simp] theorem State.setIdle_flen : (s.setIdle).flen = s.flen := rfl
@[simp] theorem State.setIdle_cs1 : (s.setIdle).cs1 = s.cs1 := rfl
@[simp] theorem State.setIdle_cs2 : (s.setIdle).cs2 = s.cs2 := rfl
@[simp] theorem State.setIdle_w : (s.setIdle).w = s.w := rfl
@[simp] theorem State.setIdle_refused : (s.setIdle).refused = s.refused := rfl
@[simp] theorem State.setIdle_opResult : (s.setIdle).opResult = s.opResult := rfl
@[simp] theorem State.setIdle_inputs : (s.setIdle).inputs = s.inputs := rfl
@[simp] theorem State.setIdle_draws : (s.setIdle).draws = s.draws := rfl

/-! `State.setBidx` -/

@[simp] theorem State.setBidx_line (i : BitVec 4) : (s.setBidx i).line = s.line := rfl
@[simp] theorem State.setBidx_phase (i : BitVec 4) : (s.setBidx i).phase = s.phase := rfl
@[simp] theorem State.setBidx_rep (i : BitVec 4) : (s.setBidx i).rep = s.rep := rfl
@[simp] theorem State.setBidx_bidx (i : BitVec 4) : (s.setBidx i).bidx = i := rfl
@[simp] theorem State.setBidx_slot (i : BitVec 4) : (s.setBidx i).slot = s.slot := rfl
@[simp] theorem State.setBidx_rem (i : BitVec 4) : (s.setBidx i).rem = s.rem := rfl
@[simp] theorem State.setBidx_cmdErr (i : BitVec 4) : (s.setBidx i).cmdErr = s.cmdErr := rfl
@[simp] theorem State.setBidx_errCause (i : BitVec 4) : (s.setBidx i).errCause = s.errCause := rfl
@[simp] theorem State.setBidx_cfgValid (i : BitVec 4) : (s.setBidx i).cfgValid = s.cfgValid := rfl
@[simp] theorem State.setBidx_cfgChan (i : BitVec 4) : (s.setBidx i).cfgChan = s.cfgChan := rfl
@[simp] theorem State.setBidx_cfgRid (i : BitVec 4) : (s.setBidx i).cfgRid = s.cfgRid := rfl
@[simp] theorem State.setBidx_raw (i : BitVec 4) : (s.setBidx i).raw = s.raw := rfl
@[simp] theorem State.setBidx_frm (i : BitVec 4) : (s.setBidx i).frm = s.frm := rfl
@[simp] theorem State.setBidx_flen (i : BitVec 4) : (s.setBidx i).flen = s.flen := rfl
@[simp] theorem State.setBidx_cs1 (i : BitVec 4) : (s.setBidx i).cs1 = s.cs1 := rfl
@[simp] theorem State.setBidx_cs2 (i : BitVec 4) : (s.setBidx i).cs2 = s.cs2 := rfl
@[simp] theorem State.setBidx_w (i : BitVec 4) : (s.setBidx i).w = s.w := rfl
@[simp] theorem State.setBidx_refused (i : BitVec 4) : (s.setBidx i).refused = s.refused := rfl
@[simp] theorem State.setBidx_opResult (i : BitVec 4) : (s.setBidx i).opResult = s.opResult := rfl
@[simp] theorem State.setBidx_inputs (i : BitVec 4) : (s.setBidx i).inputs = s.inputs := rfl
@[simp] theorem State.setBidx_draws (i : BitVec 4) : (s.setBidx i).draws = s.draws := rfl

/-! `State.startRep` -/

@[simp] theorem State.startRep_line (r : BitVec 2) : (s.startRep r).line = s.line := rfl
@[simp] theorem State.startRep_phase (r : BitVec 2) : (s.startRep r).phase = s.phase := rfl
@[simp] theorem State.startRep_rep (r : BitVec 2) : (s.startRep r).rep = r := rfl
@[simp] theorem State.startRep_bidx (r : BitVec 2) : (s.startRep r).bidx = 0#4 := rfl
@[simp] theorem State.startRep_slot (r : BitVec 2) : (s.startRep r).slot = s.slot := rfl
@[simp] theorem State.startRep_rem (r : BitVec 2) : (s.startRep r).rem = s.rem := rfl
@[simp] theorem State.startRep_cmdErr (r : BitVec 2) : (s.startRep r).cmdErr = s.cmdErr := rfl
@[simp] theorem State.startRep_errCause (r : BitVec 2) : (s.startRep r).errCause = s.errCause := rfl
@[simp] theorem State.startRep_cfgValid (r : BitVec 2) : (s.startRep r).cfgValid = s.cfgValid := rfl
@[simp] theorem State.startRep_cfgChan (r : BitVec 2) : (s.startRep r).cfgChan = s.cfgChan := rfl
@[simp] theorem State.startRep_cfgRid (r : BitVec 2) : (s.startRep r).cfgRid = s.cfgRid := rfl
@[simp] theorem State.startRep_raw (r : BitVec 2) : (s.startRep r).raw = s.raw := rfl
@[simp] theorem State.startRep_frm (r : BitVec 2) : (s.startRep r).frm = s.frm := rfl
@[simp] theorem State.startRep_flen (r : BitVec 2) : (s.startRep r).flen = s.flen := rfl
@[simp] theorem State.startRep_cs1 (r : BitVec 2) : (s.startRep r).cs1 = s.cs1 := rfl
@[simp] theorem State.startRep_cs2 (r : BitVec 2) : (s.startRep r).cs2 = s.cs2 := rfl
@[simp] theorem State.startRep_w (r : BitVec 2) : (s.startRep r).w = s.w := rfl
@[simp] theorem State.startRep_refused (r : BitVec 2) : (s.startRep r).refused = s.refused := rfl
@[simp] theorem State.startRep_opResult (r : BitVec 2) : (s.startRep r).opResult = s.opResult := rfl
@[simp] theorem State.startRep_inputs (r : BitVec 2) : (s.startRep r).inputs = s.inputs := rfl
@[simp] theorem State.startRep_draws (r : BitVec 2) : (s.startRep r).draws = s.draws := rfl

/-! `State.setRaw` -/

@[simp] theorem State.setRaw_line (v : Vector Byte 8) : (s.setRaw v).line = s.line := rfl
@[simp] theorem State.setRaw_phase (v : Vector Byte 8) : (s.setRaw v).phase = s.phase := rfl
@[simp] theorem State.setRaw_rep (v : Vector Byte 8) : (s.setRaw v).rep = s.rep := rfl
@[simp] theorem State.setRaw_bidx (v : Vector Byte 8) : (s.setRaw v).bidx = s.bidx := rfl
@[simp] theorem State.setRaw_slot (v : Vector Byte 8) : (s.setRaw v).slot = s.slot := rfl
@[simp] theorem State.setRaw_rem (v : Vector Byte 8) : (s.setRaw v).rem = s.rem := rfl
@[simp] theorem State.setRaw_cmdErr (v : Vector Byte 8) : (s.setRaw v).cmdErr = s.cmdErr := rfl
@[simp] theorem State.setRaw_errCause (v : Vector Byte 8) : (s.setRaw v).errCause = s.errCause := rfl
@[simp] theorem State.setRaw_cfgValid (v : Vector Byte 8) : (s.setRaw v).cfgValid = s.cfgValid := rfl
@[simp] theorem State.setRaw_cfgChan (v : Vector Byte 8) : (s.setRaw v).cfgChan = s.cfgChan := rfl
@[simp] theorem State.setRaw_cfgRid (v : Vector Byte 8) : (s.setRaw v).cfgRid = s.cfgRid := rfl
@[simp] theorem State.setRaw_raw (v : Vector Byte 8) : (s.setRaw v).raw = v := rfl
@[simp] theorem State.setRaw_frm (v : Vector Byte 8) : (s.setRaw v).frm = s.frm := rfl
@[simp] theorem State.setRaw_flen (v : Vector Byte 8) : (s.setRaw v).flen = s.flen := rfl
@[simp] theorem State.setRaw_cs1 (v : Vector Byte 8) : (s.setRaw v).cs1 = s.cs1 := rfl
@[simp] theorem State.setRaw_cs2 (v : Vector Byte 8) : (s.setRaw v).cs2 = s.cs2 := rfl
@[simp] theorem State.setRaw_w (v : Vector Byte 8) : (s.setRaw v).w = s.w := rfl
@[simp] theorem State.setRaw_refused (v : Vector Byte 8) : (s.setRaw v).refused = s.refused := rfl
@[simp] theorem State.setRaw_opResult (v : Vector Byte 8) : (s.setRaw v).opResult = s.opResult := rfl
@[simp] theorem State.setRaw_inputs (v : Vector Byte 8) : (s.setRaw v).inputs = s.inputs := rfl
@[simp] theorem State.setRaw_draws (v : Vector Byte 8) : (s.setRaw v).draws = s.draws := rfl

/-! `State.writeRaw` -/

@[simp] theorem State.writeRaw_line (i : Fin 8) (v : Byte) : (s.writeRaw i v).line = s.line := rfl
@[simp] theorem State.writeRaw_phase (i : Fin 8) (v : Byte) : (s.writeRaw i v).phase = s.phase := rfl
@[simp] theorem State.writeRaw_rep (i : Fin 8) (v : Byte) : (s.writeRaw i v).rep = s.rep := rfl
@[simp] theorem State.writeRaw_bidx (i : Fin 8) (v : Byte) : (s.writeRaw i v).bidx = s.bidx := rfl
@[simp] theorem State.writeRaw_slot (i : Fin 8) (v : Byte) : (s.writeRaw i v).slot = s.slot := rfl
@[simp] theorem State.writeRaw_rem (i : Fin 8) (v : Byte) : (s.writeRaw i v).rem = s.rem := rfl
@[simp] theorem State.writeRaw_cmdErr (i : Fin 8) (v : Byte) : (s.writeRaw i v).cmdErr = s.cmdErr := rfl
@[simp] theorem State.writeRaw_errCause (i : Fin 8) (v : Byte) : (s.writeRaw i v).errCause = s.errCause := rfl
@[simp] theorem State.writeRaw_cfgValid (i : Fin 8) (v : Byte) : (s.writeRaw i v).cfgValid = s.cfgValid := rfl
@[simp] theorem State.writeRaw_cfgChan (i : Fin 8) (v : Byte) : (s.writeRaw i v).cfgChan = s.cfgChan := rfl
@[simp] theorem State.writeRaw_cfgRid (i : Fin 8) (v : Byte) : (s.writeRaw i v).cfgRid = s.cfgRid := rfl
@[simp] theorem State.writeRaw_raw (i : Fin 8) (v : Byte) : (s.writeRaw i v).raw = s.raw.set i v := rfl
@[simp] theorem State.writeRaw_frm (i : Fin 8) (v : Byte) : (s.writeRaw i v).frm = s.frm := rfl
@[simp] theorem State.writeRaw_flen (i : Fin 8) (v : Byte) : (s.writeRaw i v).flen = s.flen := rfl
@[simp] theorem State.writeRaw_cs1 (i : Fin 8) (v : Byte) : (s.writeRaw i v).cs1 = s.cs1 := rfl
@[simp] theorem State.writeRaw_cs2 (i : Fin 8) (v : Byte) : (s.writeRaw i v).cs2 = s.cs2 := rfl
@[simp] theorem State.writeRaw_w (i : Fin 8) (v : Byte) : (s.writeRaw i v).w = s.w := rfl
@[simp] theorem State.writeRaw_refused (i : Fin 8) (v : Byte) : (s.writeRaw i v).refused = s.refused := rfl
@[simp] theorem State.writeRaw_opResult (i : Fin 8) (v : Byte) : (s.writeRaw i v).opResult = s.opResult := rfl
@[simp] theorem State.writeRaw_inputs (i : Fin 8) (v : Byte) : (s.writeRaw i v).inputs = s.inputs := rfl
@[simp] theorem State.writeRaw_draws (i : Fin 8) (v : Byte) : (s.writeRaw i v).draws = s.draws := rfl

/-! `State.setFrm` -/

@[simp] theorem State.setFrm_line (v : Vector Byte 10) : (s.setFrm v).line = s.line := rfl
@[simp] theorem State.setFrm_phase (v : Vector Byte 10) : (s.setFrm v).phase = s.phase := rfl
@[simp] theorem State.setFrm_rep (v : Vector Byte 10) : (s.setFrm v).rep = s.rep := rfl
@[simp] theorem State.setFrm_bidx (v : Vector Byte 10) : (s.setFrm v).bidx = s.bidx := rfl
@[simp] theorem State.setFrm_slot (v : Vector Byte 10) : (s.setFrm v).slot = s.slot := rfl
@[simp] theorem State.setFrm_rem (v : Vector Byte 10) : (s.setFrm v).rem = s.rem := rfl
@[simp] theorem State.setFrm_cmdErr (v : Vector Byte 10) : (s.setFrm v).cmdErr = s.cmdErr := rfl
@[simp] theorem State.setFrm_errCause (v : Vector Byte 10) : (s.setFrm v).errCause = s.errCause := rfl
@[simp] theorem State.setFrm_cfgValid (v : Vector Byte 10) : (s.setFrm v).cfgValid = s.cfgValid := rfl
@[simp] theorem State.setFrm_cfgChan (v : Vector Byte 10) : (s.setFrm v).cfgChan = s.cfgChan := rfl
@[simp] theorem State.setFrm_cfgRid (v : Vector Byte 10) : (s.setFrm v).cfgRid = s.cfgRid := rfl
@[simp] theorem State.setFrm_raw (v : Vector Byte 10) : (s.setFrm v).raw = s.raw := rfl
@[simp] theorem State.setFrm_frm (v : Vector Byte 10) : (s.setFrm v).frm = v := rfl
@[simp] theorem State.setFrm_flen (v : Vector Byte 10) : (s.setFrm v).flen = s.flen := rfl
@[simp] theorem State.setFrm_cs1 (v : Vector Byte 10) : (s.setFrm v).cs1 = s.cs1 := rfl
@[simp] theorem State.setFrm_cs2 (v : Vector Byte 10) : (s.setFrm v).cs2 = s.cs2 := rfl
@[simp] theorem State.setFrm_w (v : Vector Byte 10) : (s.setFrm v).w = s.w := rfl
@[simp] theorem State.setFrm_refused (v : Vector Byte 10) : (s.setFrm v).refused = s.refused := rfl
@[simp] theorem State.setFrm_opResult (v : Vector Byte 10) : (s.setFrm v).opResult = s.opResult := rfl
@[simp] theorem State.setFrm_inputs (v : Vector Byte 10) : (s.setFrm v).inputs = s.inputs := rfl
@[simp] theorem State.setFrm_draws (v : Vector Byte 10) : (s.setFrm v).draws = s.draws := rfl

/-! `State.setFrame` -/

@[simp] theorem State.setFrame_line (v : Vector Byte 10) (n : BitVec 6) (c1 c2 : Byte) :
    (s.setFrame v n c1 c2).line = s.line := rfl
@[simp] theorem State.setFrame_phase (v : Vector Byte 10) (n : BitVec 6) (c1 c2 : Byte) :
    (s.setFrame v n c1 c2).phase = s.phase := rfl
@[simp] theorem State.setFrame_rep (v : Vector Byte 10) (n : BitVec 6) (c1 c2 : Byte) :
    (s.setFrame v n c1 c2).rep = s.rep := rfl
@[simp] theorem State.setFrame_bidx (v : Vector Byte 10) (n : BitVec 6) (c1 c2 : Byte) :
    (s.setFrame v n c1 c2).bidx = s.bidx := rfl
@[simp] theorem State.setFrame_slot (v : Vector Byte 10) (n : BitVec 6) (c1 c2 : Byte) :
    (s.setFrame v n c1 c2).slot = s.slot := rfl
@[simp] theorem State.setFrame_rem (v : Vector Byte 10) (n : BitVec 6) (c1 c2 : Byte) :
    (s.setFrame v n c1 c2).rem = s.rem := rfl
@[simp] theorem State.setFrame_cmdErr (v : Vector Byte 10) (n : BitVec 6) (c1 c2 : Byte) :
    (s.setFrame v n c1 c2).cmdErr = s.cmdErr := rfl
@[simp] theorem State.setFrame_errCause (v : Vector Byte 10) (n : BitVec 6) (c1 c2 : Byte) :
    (s.setFrame v n c1 c2).errCause = s.errCause := rfl
@[simp] theorem State.setFrame_cfgValid (v : Vector Byte 10) (n : BitVec 6) (c1 c2 : Byte) :
    (s.setFrame v n c1 c2).cfgValid = s.cfgValid := rfl
@[simp] theorem State.setFrame_cfgChan (v : Vector Byte 10) (n : BitVec 6) (c1 c2 : Byte) :
    (s.setFrame v n c1 c2).cfgChan = s.cfgChan := rfl
@[simp] theorem State.setFrame_cfgRid (v : Vector Byte 10) (n : BitVec 6) (c1 c2 : Byte) :
    (s.setFrame v n c1 c2).cfgRid = s.cfgRid := rfl
@[simp] theorem State.setFrame_raw (v : Vector Byte 10) (n : BitVec 6) (c1 c2 : Byte) :
    (s.setFrame v n c1 c2).raw = s.raw := rfl
@[simp] theorem State.setFrame_frm (v : Vector Byte 10) (n : BitVec 6) (c1 c2 : Byte) :
    (s.setFrame v n c1 c2).frm = v := rfl
@[simp] theorem State.setFrame_flen (v : Vector Byte 10) (n : BitVec 6) (c1 c2 : Byte) :
    (s.setFrame v n c1 c2).flen = n := rfl
@[simp] theorem State.setFrame_cs1 (v : Vector Byte 10) (n : BitVec 6) (c1 c2 : Byte) :
    (s.setFrame v n c1 c2).cs1 = c1 := rfl
@[simp] theorem State.setFrame_cs2 (v : Vector Byte 10) (n : BitVec 6) (c1 c2 : Byte) :
    (s.setFrame v n c1 c2).cs2 = c2 := rfl
@[simp] theorem State.setFrame_w (v : Vector Byte 10) (n : BitVec 6) (c1 c2 : Byte) :
    (s.setFrame v n c1 c2).w = s.w := rfl
@[simp] theorem State.setFrame_refused (v : Vector Byte 10) (n : BitVec 6) (c1 c2 : Byte) :
    (s.setFrame v n c1 c2).refused = s.refused := rfl
@[simp] theorem State.setFrame_opResult (v : Vector Byte 10) (n : BitVec 6) (c1 c2 : Byte) :
    (s.setFrame v n c1 c2).opResult = s.opResult := rfl
@[simp] theorem State.setFrame_inputs (v : Vector Byte 10) (n : BitVec 6) (c1 c2 : Byte) :
    (s.setFrame v n c1 c2).inputs = s.inputs := rfl
@[simp] theorem State.setFrame_draws (v : Vector Byte 10) (n : BitVec 6) (c1 c2 : Byte) :
    (s.setFrame v n c1 c2).draws = s.draws := rfl

/-! `State.setError` -/

@[simp] theorem State.setError_line (flag : Bool) (cause : BitVec 3) : (s.setError flag cause).line = s.line := rfl
@[simp] theorem State.setError_phase (flag : Bool) (cause : BitVec 3) : (s.setError flag cause).phase = s.phase := rfl
@[simp] theorem State.setError_rep (flag : Bool) (cause : BitVec 3) : (s.setError flag cause).rep = s.rep := rfl
@[simp] theorem State.setError_bidx (flag : Bool) (cause : BitVec 3) : (s.setError flag cause).bidx = s.bidx := rfl
@[simp] theorem State.setError_slot (flag : Bool) (cause : BitVec 3) : (s.setError flag cause).slot = s.slot := rfl
@[simp] theorem State.setError_rem (flag : Bool) (cause : BitVec 3) : (s.setError flag cause).rem = s.rem := rfl
@[simp] theorem State.setError_cmdErr (flag : Bool) (cause : BitVec 3) : (s.setError flag cause).cmdErr = flag := rfl
@[simp] theorem State.setError_errCause (flag : Bool) (cause : BitVec 3) :
    (s.setError flag cause).errCause = cause := rfl
@[simp] theorem State.setError_cfgValid (flag : Bool) (cause : BitVec 3) :
    (s.setError flag cause).cfgValid = s.cfgValid := rfl
@[simp] theorem State.setError_cfgChan (flag : Bool) (cause : BitVec 3) :
    (s.setError flag cause).cfgChan = s.cfgChan := rfl
@[simp] theorem State.setError_cfgRid (flag : Bool) (cause : BitVec 3) :
    (s.setError flag cause).cfgRid = s.cfgRid := rfl
@[simp] theorem State.setError_raw (flag : Bool) (cause : BitVec 3) : (s.setError flag cause).raw = s.raw := rfl
@[simp] theorem State.setError_frm (flag : Bool) (cause : BitVec 3) : (s.setError flag cause).frm = s.frm := rfl
@[simp] theorem State.setError_flen (flag : Bool) (cause : BitVec 3) : (s.setError flag cause).flen = s.flen := rfl
@[simp] theorem State.setError_cs1 (flag : Bool) (cause : BitVec 3) : (s.setError flag cause).cs1 = s.cs1 := rfl
@[simp] theorem State.setError_cs2 (flag : Bool) (cause : BitVec 3) : (s.setError flag cause).cs2 = s.cs2 := rfl
@[simp] theorem State.setError_w (flag : Bool) (cause : BitVec 3) : (s.setError flag cause).w = s.w := rfl
@[simp] theorem State.setError_refused (flag : Bool) (cause : BitVec 3) :
    (s.setError flag cause).refused = s.refused := rfl
@[simp] theorem State.setError_opResult (flag : Bool) (cause : BitVec 3) :
    (s.setError flag cause).opResult = s.opResult := rfl
@[simp] theorem State.setError_inputs (flag : Bool) (cause : BitVec 3) :
    (s.setError flag cause).inputs = s.inputs := rfl
@[simp] theorem State.setError_draws (flag : Bool) (cause : BitVec 3) : (s.setError flag cause).draws = s.draws := rfl

/-! `State.setResult` -/

@[simp] theorem State.setResult_line (r : OpResult) : (s.setResult r).line = s.line := rfl
@[simp] theorem State.setResult_phase (r : OpResult) : (s.setResult r).phase = s.phase := rfl
@[simp] theorem State.setResult_rep (r : OpResult) : (s.setResult r).rep = s.rep := rfl
@[simp] theorem State.setResult_bidx (r : OpResult) : (s.setResult r).bidx = s.bidx := rfl
@[simp] theorem State.setResult_slot (r : OpResult) : (s.setResult r).slot = s.slot := rfl
@[simp] theorem State.setResult_rem (r : OpResult) : (s.setResult r).rem = s.rem := rfl
@[simp] theorem State.setResult_cmdErr (r : OpResult) : (s.setResult r).cmdErr = s.cmdErr := rfl
@[simp] theorem State.setResult_errCause (r : OpResult) : (s.setResult r).errCause = s.errCause := rfl
@[simp] theorem State.setResult_cfgValid (r : OpResult) : (s.setResult r).cfgValid = s.cfgValid := rfl
@[simp] theorem State.setResult_cfgChan (r : OpResult) : (s.setResult r).cfgChan = s.cfgChan := rfl
@[simp] theorem State.setResult_cfgRid (r : OpResult) : (s.setResult r).cfgRid = s.cfgRid := rfl
@[simp] theorem State.setResult_raw (r : OpResult) : (s.setResult r).raw = s.raw := rfl
@[simp] theorem State.setResult_frm (r : OpResult) : (s.setResult r).frm = s.frm := rfl
@[simp] theorem State.setResult_flen (r : OpResult) : (s.setResult r).flen = s.flen := rfl
@[simp] theorem State.setResult_cs1 (r : OpResult) : (s.setResult r).cs1 = s.cs1 := rfl
@[simp] theorem State.setResult_cs2 (r : OpResult) : (s.setResult r).cs2 = s.cs2 := rfl
@[simp] theorem State.setResult_w (r : OpResult) : (s.setResult r).w = s.w := rfl
@[simp] theorem State.setResult_refused (r : OpResult) : (s.setResult r).refused = s.refused := rfl
@[simp] theorem State.setResult_opResult (r : OpResult) : (s.setResult r).opResult = r := rfl
@[simp] theorem State.setResult_inputs (r : OpResult) : (s.setResult r).inputs = s.inputs := rfl
@[simp] theorem State.setResult_draws (r : OpResult) : (s.setResult r).draws = s.draws := rfl

/-! `State.setInputs` -/

@[simp] theorem State.setInputs_line (l : List Edge) : (s.setInputs l).line = s.line := rfl
@[simp] theorem State.setInputs_phase (l : List Edge) : (s.setInputs l).phase = s.phase := rfl
@[simp] theorem State.setInputs_rep (l : List Edge) : (s.setInputs l).rep = s.rep := rfl
@[simp] theorem State.setInputs_bidx (l : List Edge) : (s.setInputs l).bidx = s.bidx := rfl
@[simp] theorem State.setInputs_slot (l : List Edge) : (s.setInputs l).slot = s.slot := rfl
@[simp] theorem State.setInputs_rem (l : List Edge) : (s.setInputs l).rem = s.rem := rfl
@[simp] theorem State.setInputs_cmdErr (l : List Edge) : (s.setInputs l).cmdErr = s.cmdErr := rfl
@[simp] theorem State.setInputs_errCause (l : List Edge) : (s.setInputs l).errCause = s.errCause := rfl
@[simp] theorem State.setInputs_cfgValid (l : List Edge) : (s.setInputs l).cfgValid = s.cfgValid := rfl
@[simp] theorem State.setInputs_cfgChan (l : List Edge) : (s.setInputs l).cfgChan = s.cfgChan := rfl
@[simp] theorem State.setInputs_cfgRid (l : List Edge) : (s.setInputs l).cfgRid = s.cfgRid := rfl
@[simp] theorem State.setInputs_raw (l : List Edge) : (s.setInputs l).raw = s.raw := rfl
@[simp] theorem State.setInputs_frm (l : List Edge) : (s.setInputs l).frm = s.frm := rfl
@[simp] theorem State.setInputs_flen (l : List Edge) : (s.setInputs l).flen = s.flen := rfl
@[simp] theorem State.setInputs_cs1 (l : List Edge) : (s.setInputs l).cs1 = s.cs1 := rfl
@[simp] theorem State.setInputs_cs2 (l : List Edge) : (s.setInputs l).cs2 = s.cs2 := rfl
@[simp] theorem State.setInputs_w (l : List Edge) : (s.setInputs l).w = s.w := rfl
@[simp] theorem State.setInputs_refused (l : List Edge) : (s.setInputs l).refused = s.refused := rfl
@[simp] theorem State.setInputs_opResult (l : List Edge) : (s.setInputs l).opResult = s.opResult := rfl
@[simp] theorem State.setInputs_inputs (l : List Edge) : (s.setInputs l).inputs = l := rfl
@[simp] theorem State.setInputs_draws (l : List Edge) : (s.setInputs l).draws = s.draws := rfl

/-! `State.markRefused` -/

@[simp] theorem State.markRefused_line (r : Refusal) : (s.markRefused r).line = s.line := rfl
@[simp] theorem State.markRefused_phase (r : Refusal) : (s.markRefused r).phase = s.phase := rfl
@[simp] theorem State.markRefused_rep (r : Refusal) : (s.markRefused r).rep = s.rep := rfl
@[simp] theorem State.markRefused_bidx (r : Refusal) : (s.markRefused r).bidx = s.bidx := rfl
@[simp] theorem State.markRefused_slot (r : Refusal) : (s.markRefused r).slot = s.slot := rfl
@[simp] theorem State.markRefused_rem (r : Refusal) : (s.markRefused r).rem = s.rem := rfl
@[simp] theorem State.markRefused_cmdErr (r : Refusal) : (s.markRefused r).cmdErr = s.cmdErr := rfl
@[simp] theorem State.markRefused_errCause (r : Refusal) : (s.markRefused r).errCause = s.errCause := rfl
@[simp] theorem State.markRefused_cfgValid (r : Refusal) : (s.markRefused r).cfgValid = s.cfgValid := rfl
@[simp] theorem State.markRefused_cfgChan (r : Refusal) : (s.markRefused r).cfgChan = s.cfgChan := rfl
@[simp] theorem State.markRefused_cfgRid (r : Refusal) : (s.markRefused r).cfgRid = s.cfgRid := rfl
@[simp] theorem State.markRefused_raw (r : Refusal) : (s.markRefused r).raw = s.raw := rfl
@[simp] theorem State.markRefused_frm (r : Refusal) : (s.markRefused r).frm = s.frm := rfl
@[simp] theorem State.markRefused_flen (r : Refusal) : (s.markRefused r).flen = s.flen := rfl
@[simp] theorem State.markRefused_cs1 (r : Refusal) : (s.markRefused r).cs1 = s.cs1 := rfl
@[simp] theorem State.markRefused_cs2 (r : Refusal) : (s.markRefused r).cs2 = s.cs2 := rfl
@[simp] theorem State.markRefused_w (r : Refusal) : (s.markRefused r).w = s.w := rfl
@[simp] theorem State.markRefused_refused (r : Refusal) : (s.markRefused r).refused = some r := rfl
@[simp] theorem State.markRefused_opResult (r : Refusal) : (s.markRefused r).opResult = s.opResult := rfl
@[simp] theorem State.markRefused_inputs (r : Refusal) : (s.markRefused r).inputs = s.inputs := rfl
@[simp] theorem State.markRefused_draws (r : Refusal) : (s.markRefused r).draws = s.draws := rfl

/-! `State.resetRegs` -/

@[simp] theorem State.resetRegs_line (u : Config.Unspecified) : (s.resetRegs u).line = false := rfl
@[simp] theorem State.resetRegs_phase (u : Config.Unspecified) : (s.resetRegs u).phase = .idle := rfl
@[simp] theorem State.resetRegs_rep (u : Config.Unspecified) : (s.resetRegs u).rep = u.rep := rfl
@[simp] theorem State.resetRegs_bidx (u : Config.Unspecified) : (s.resetRegs u).bidx = u.bidx := rfl
@[simp] theorem State.resetRegs_slot (u : Config.Unspecified) : (s.resetRegs u).slot = u.slot := rfl
@[simp] theorem State.resetRegs_rem (u : Config.Unspecified) : (s.resetRegs u).rem = u.rem := rfl
@[simp] theorem State.resetRegs_cmdErr (u : Config.Unspecified) : (s.resetRegs u).cmdErr = false := rfl
@[simp] theorem State.resetRegs_errCause (u : Config.Unspecified) : (s.resetRegs u).errCause = 0#3 := rfl
@[simp] theorem State.resetRegs_cfgValid (u : Config.Unspecified) : (s.resetRegs u).cfgValid = false := rfl
@[simp] theorem State.resetRegs_cfgChan (u : Config.Unspecified) : (s.resetRegs u).cfgChan = 0#3 := rfl
@[simp] theorem State.resetRegs_cfgRid (u : Config.Unspecified) : (s.resetRegs u).cfgRid = 0#5 := rfl
@[simp] theorem State.resetRegs_raw (u : Config.Unspecified) : (s.resetRegs u).raw = u.raw := rfl
@[simp] theorem State.resetRegs_frm (u : Config.Unspecified) : (s.resetRegs u).frm = u.frm := rfl
@[simp] theorem State.resetRegs_flen (u : Config.Unspecified) : (s.resetRegs u).flen = u.flen := rfl
@[simp] theorem State.resetRegs_cs1 (u : Config.Unspecified) : (s.resetRegs u).cs1 = u.cs1 := rfl
@[simp] theorem State.resetRegs_cs2 (u : Config.Unspecified) : (s.resetRegs u).cs2 = u.cs2 := rfl
@[simp] theorem State.resetRegs_w (u : Config.Unspecified) : (s.resetRegs u).w = u.w := rfl
@[simp] theorem State.resetRegs_refused (u : Config.Unspecified) : (s.resetRegs u).refused = s.refused := rfl
@[simp] theorem State.resetRegs_opResult (u : Config.Unspecified) : (s.resetRegs u).opResult = s.opResult := rfl
@[simp] theorem State.resetRegs_inputs (u : Config.Unspecified) : (s.resetRegs u).inputs = s.inputs := rfl
@[simp] theorem State.resetRegs_draws (u : Config.Unspecified) : (s.resetRegs u).draws = s.draws + 1 := rfl

/-- A state is its own value of `inputs`. -/
@[simp] theorem State.setInputs_self : s.setInputs s.inputs = s := rfl

@[simp] theorem State.setInputs_setInputs (l m : List Edge) : (s.setInputs l).setInputs m = s.setInputs m := rfl

end Sys2Proof.Machine
end

