-- ==== Sys2Proof/Laws/Ops.lean ====
section
/-! SUPPORT. What the shared operations of Machine/Ops.lean can answer. -/

namespace Sys2Proof.Machine

variable {α β : Type}

@[simp] theorem andThen_next (a : α) (k : α → Host.Outcome β Fault Refusal) : andThen (.next a) k = k a := rfl

@[simp] theorem andThen_fault (r : Fault) (k : α → Host.Outcome β Fault Refusal) :
    andThen (.fault r) k = .fault r := rfl

@[simp] theorem andThen_refused (r : Refusal) (k : α → Host.Outcome β Fault Refusal) :
    andThen (.refused r) k = .refused r := rfl

/-- A sequence answers a next state exactly when both parts do. -/
theorem andThen_eq_next {o : Host.Outcome α Fault Refusal} {k : α → Host.Outcome β Fault Refusal} {b : β} :
    andThen o k = .next b ↔ ∃ a, o = .next a ∧ k a = .next b := by
  cases o <;> simp

/-- A sequence faults when its first part does, or its second part after it. -/
theorem andThen_eq_fault {o : Host.Outcome α Fault Refusal} {k : α → Host.Outcome β Fault Refusal} {r : Fault} :
    andThen o k = .fault r ↔ o = .fault r ∨ ∃ a, o = .next a ∧ k a = .fault r := by
  cases o <;> simp

/-- A sequence is refused when its first part is, or its second part after it. -/
theorem andThen_eq_refused {o : Host.Outcome α Fault Refusal} {k : α → Host.Outcome β Fault Refusal}
    {r : Refusal} :
    andThen o k = .refused r ↔ o = .refused r ∨ ∃ a, o = .next a ∧ k a = .refused r := by
  cases o <;> simp

/-- Sequencing is associative. -/
theorem andThen_assoc {γ : Type} (o : Host.Outcome α Fault Refusal) (k : α → Host.Outcome β Fault Refusal)
    (l : β → Host.Outcome γ Fault Refusal) :
    andThen (andThen o k) l = andThen o fun a => andThen (k a) l := by
  cases o <;> rfl

@[simp] theorem andThen_pure (o : Host.Outcome α Fault Refusal) : andThen o .next = o := by
  cases o <;> rfl

/-- In a live state the guard is transparent. -/
theorem whenLive_of_live {s : State} {o : Result} (h : s.refused = none) : whenLive s o = o := by
  simp [whenLive, h]

/-- In a refused state the guard answers the kept reason. -/
theorem whenLive_of_refused {s : State} {o : Result} {r : Refusal} (h : s.refused = some r) :
    whenLive s o = .refused r := by
  simp [whenLive, h]

/-- A guarded meaning answers a next state only in a live state, and then it is the meaning's own. -/
theorem whenLive_eq_next {s t : State} {o : Result} :
    whenLive s o = .next t ↔ s.refused = none ∧ o = .next t := by
  cases h : s.refused <;> simp [whenLive, h]

/-- A marked state is refused with the mark's reason. -/
theorem whenLive_markRefused (s : State) (r : Refusal) (o : Result) : whenLive (s.markRefused r) o = .refused r := rfl

/-- BUSY is PHASE ≠ IDLE. -/
theorem busy_eq_true {s : State} : busy s = true ↔ s.phase ≠ .idle := by
  simp [busy]

theorem busy_eq_false {s : State} : busy s = false ↔ s.phase = .idle := by
  simp [busy]

/-- What a command error writes (R180). -/
theorem raiseCmdError_eq (cause : ErrorCause) (s : State) :
    raiseCmdError cause s =
      { s with cmdErr := true, errCause := if s.cmdErr then s.errCause else causeCode cause } := rfl

@[simp] theorem raiseCmdError_cmdErr (cause : ErrorCause) (s : State) : (raiseCmdError cause s).cmdErr = true := rfl

@[simp] theorem raiseCmdError_refused (cause : ErrorCause) (s : State) :
    (raiseCmdError cause s).refused = s.refused := rfl

@[simp] theorem raiseCmdError_phase (cause : ErrorCause) (s : State) :
    (raiseCmdError cause s).phase = s.phase := rfl

/-- A second command error keeps the first cause (R188). -/
theorem raiseCmdError_errCause_of_set {cause : ErrorCause} {s : State} (h : s.cmdErr = true) :
    (raiseCmdError cause s).errCause = s.errCause := by
  simp [raiseCmdError, h]

/-- The clearing of the error (R164). -/
theorem clearCmdError_eq (s : State) : clearCmdError s = { s with cmdErr := false, errCause := 0#3 } := rfl

/-- A byte of FRM is there exactly below index 10. -/
theorem readFrm_isSome {s : State} {i : Nat} : (readFrm s i).isSome = true ↔ i < 10 := by
  simp [readFrm]

theorem readFrm_of_lt {s : State} {i : Nat} (h : i < 10) : readFrm s i = some s.frm[i] := by
  simp [readFrm, h]

theorem readFrm_of_ge {s : State} {i : Nat} (h : 10 ≤ i) : readFrm s i = none := by
  simp [readFrm, h]

/-- A byte of RAW is there exactly below index 8. -/
theorem readRaw_isSome {s : State} {i : Nat} : (readRaw s i).isSome = true ↔ i < 8 := by
  simp [readRaw]

/-- A write of RAW is read back, and every other byte reads as before. -/
theorem readRaw_writeRaw (s : State) (i : Fin 8) (v : Byte) (j : Nat) :
    readRaw (s.writeRaw i v) j = if j = i.val then some v else readRaw s j := by
  unfold readRaw
  by_cases h : j = i.val
  · subst h; simp
  · simp [State.writeRaw, h, Ne.symm h]

/-- REM's width holds both durations whole (R5). -/
@[simp] theorem holdTicks_halfBit : holdTicks ctx ctx.halfBit = 500#16 := by decide

@[simp] theorem holdTicks_gap : holdTicks ctx ctx.gap = 30000#16 := by decide

/-- What a reset edge leaves in the registers R35 gives a value (R200), and that the draws are counted. -/
theorem resetEdge_values (s : State) :
    (resetEdge s).line = false ∧ (resetEdge s).phase = .idle ∧ (resetEdge s).cmdErr = false ∧
      (resetEdge s).errCause = 0 ∧ (resetEdge s).cfgValid = false ∧ (resetEdge s).cfgChan = 0 ∧
      (resetEdge s).cfgRid = 0 ∧ (resetEdge s).refused = s.refused ∧ (resetEdge s).inputs = s.inputs ∧
      (resetEdge s).draws = s.draws + 1 :=
  ⟨rfl, rfl, rfl, rfl, rfl, rfl, rfl, rfl, rfl, rfl⟩

end Sys2Proof.Machine
end

