-- ==== Sys2Proof/Laws/Datapath.lean ====
section
/-! SUPPORT. What FRAME_BUILD, CHANNEL_REMAP and PAYLOAD_ENCODE can answer. -/

namespace Sys2Proof.Machine

@[simp] theorem countField_eq (b : Byte) : countField b = b.toNat / 2 % 32 := by
  have h : (0x1F#8).toNat = 2 ^ 5 - 1 := by decide
  simp only [countField, BitVec.toNat_and, BitVec.toNat_ushiftRight, h, Nat.shiftRight_one,
    Nat.and_two_pow_sub_one_eq_mod]

/-- If a build answers, its count was within the capacity, and this is what it answers. -/
theorem buildFrame_eq_next {c : Config} {frm : Vector Byte 10} {f : Framed} (h : buildFrame c frm = .next f) :
    ∃ hc : countField frm[2] + 2 < 10,
      ¬(countField frm[2] > c.rawLen - 1 ∨ countField frm[2] + 3 > c.frameCap) ∧
      f.build.cs1 = (transformLoop c (countField frm[2]) frm).cs1 ∧
      f.build.cs2 = (transformLoop c (countField frm[2]) frm).cs2 ∧
      f.build.frm =
        ((transformLoop c (countField frm[2]) frm).frm.set (countField frm[2] + 1) f.build.cs1 (by omega)).set
          (countField frm[2] + 2) (mix c (f.build.cs1 ^^^ f.build.cs2)) hc ∧
      f.flen = BitVec.ofNat 6 (countField frm[2] + 3) := by
  unfold buildFrame buildCounted at h
  split at h
  · simp at h
  · rename_i hcap
    split at h
    · rename_i hc
      simp only [Host.Outcome.next.injEq] at h
      subst h
      exact ⟨hc, hcap, rfl, rfl, rfl, rfl⟩
    · simp at h

/-- On this hardware a build of a frame whose count is at most 7 completes. -/
theorem buildFrame_completes {frm : Vector Byte 10} (h : countField frm[2] ≤ 7) :
    ∃ f, buildFrame ctx frm = .next f := by
  have hcap : ¬(countField frm[2] > ctx.rawLen - 1 ∨ countField frm[2] + 3 > ctx.frameCap) := by
    simp only [ctx]; omega
  have hc : countField frm[2] + 2 < 10 := by omega
  unfold buildFrame buildCounted
  simp only [hcap, hc, if_false, dif_pos]
  exact ⟨_, rfl⟩

/-- On this hardware a build of a frame whose count is above 7 is refused (R105). -/
theorem buildFrame_over_capacity {frm : Vector Byte 10} (h : 7 < countField frm[2]) :
    buildFrame ctx frm = .refused .frameCapacity := by
  have hcap : countField frm[2] > ctx.rawLen - 1 ∨ countField frm[2] + 3 > ctx.frameCap := by
    simp only [ctx]; omega
  unfold buildFrame buildCounted
  simp only [hcap, if_true]

/-- FRAME_BUILD writes FRM, FLEN, CS1 and CS2 and nothing else. -/
theorem frameBuild_eq_next {c : Config} {s t : State} (h : frameBuild c s = .next t) :
    ∃ f, buildFrame c s.frm = .next f ∧ t = s.setFrame f.build.frm f.flen f.build.cs1 f.build.cs2 := by
  obtain ⟨f, hf, ht⟩ := andThen_eq_next.mp h
  exact ⟨f, hf, by simpa using ht.symm⟩

/-- CHANNEL_REMAP never faults; it answers by the table, or refuses (R142). -/
theorem channelRemap_cases (c : Config) (ch : BitVec 3) :
    (∃ wire, c.channelMap.lookup ch = some wire ∧ channelRemap c ch = .next wire) ∨
      (c.channelMap.lookup ch = none ∧ channelRemap c ch = .refused .chanRange) := by
  unfold channelRemap
  cases c.channelMap.lookup ch <;> simp

/-- On this hardware CHANNEL_REMAP answers exactly on the legal channels. -/
theorem channelRemap_ctx (ch : BitVec 3) :
    channelRemap ctx ch =
      if 1 ≤ ch.toNat ∧ ch.toNat ≤ 5 then .next (if ch.toNat ≤ 3 then ch else ch + 1#3) else .refused .chanRange := by
  revert ch
  simp only [channelRemap, ctx]
  intro ch
  have : ch.toNat < 8 := ch.isLt
  obtain ⟨n, hn⟩ : ∃ n, ch.toNat = n := ⟨_, rfl⟩
  have hch : ch = BitVec.ofNat 3 n := by simp [← hn]
  subst hch
  have : n < 8 := by omega
  interval_cases n <;> rfl

/-- If PAYLOAD_ENCODE answers, both operands were legal, the channel had a wire channel, and RAW holds the eight bytes of
R140; nothing else is written. -/
theorem payloadEncode_eq_next {c : Config} {temp : BitVec 11} {hum : BitVec 7} {batt : Bool} {s t : State}
    (h : payloadEncode c temp hum batt s = .next t) :
    tempLegal temp = true ∧ humLegal hum = true ∧ ∃ wire, channelRemap c s.cfgChan = .next wire ∧
      t = s.setRaw #v[c.header, identityByte wire s.cfgRid, batteryByte c batt, 0#8, tempDigits temp, tempSign c temp,
        humDigits hum, c.comfort] := by
  unfold payloadEncode at h
  split at h
  · simp at h
  · split at h
    · simp at h
    · rename_i h1 h2
      obtain ⟨wire, hw, ht⟩ := andThen_eq_next.mp h
      refine ⟨by simpa using h1, by simpa using h2, wire, hw, ?_⟩
      simp only [Host.Outcome.next.injEq] at ht
      subst ht
      simp only [humEncode, tempEncode, State.writeRaw, State.setRaw, State.mk.injEq, true_and, and_true]
      apply Vector.ext
      intro i hi
      interval_cases i <;> simp

/-- PAYLOAD_ENCODE on legal operands and a legal channel completes. -/
theorem payloadEncode_completes {temp : BitVec 11} {hum : BitVec 7} (batt : Bool) {s : State}
    (ht : tempLegal temp = true) (hh : humLegal hum = true) (hc : chanLegal s.cfgChan = true) :
    ∃ t, payloadEncode ctx temp hum batt s = .next t := by
  have hc' : 1 ≤ s.cfgChan.toNat ∧ s.cfgChan.toNat ≤ 5 := of_decide_eq_true hc
  simp [payloadEncode, ht, hh, channelRemap_ctx, hc']

end Sys2Proof.Machine
end

