-- ==== Sys2Proof/Laws/PerInstr.lean ====
section
/-! SUPPORT. The statements about every instruction as syntax, one lemma for each constructor. -/

namespace Sys2Proof.Laws

open Sys2Proof

/-- The mask and the match of the instruction's row in spec/opcode_table.json; none for a row without a command word. -/
def rowBits : Instr → Option (Word × Word)
  | .nop => some (0xFFFFFFFF#32, 0x00000000#32)
  | .config _ _ => some (0xFFFFFF00#32, 0x10000000#32)
  | .send _ _ _ => some (0xFFF80000#32, 0x20000000#32)
  | .clrerr => some (0xFFFFFFFF#32, 0x30000000#32)
  | .obscure _ => none
  | .mix _ => none
  | .frameBuild => none
  | .repeatStart _ => none
  | .byteSerialize => none
  | .channelRemap _ => none
  | .tempEncode _ => none
  | .humEncode _ => none
  | .payloadEncode _ _ _ => none
  | .seqTick => none

/-- A command has a word, and that word has the fixed bits of its row; an operation whose row has no word has none. -/
def WordMatchesRow.Statement (i : Instr) : Prop :=
  match encode i, rowBits i with
  | some w, some (mask, value) => w &&& mask = value
  | none, none => True
  | _, _ => False

theorem WordMatchesRow.nop : WordMatchesRow.Statement .nop := by
  show _ = _
  decide

theorem WordMatchesRow.config (chan : BitVec 3) (rid : BitVec 5) : WordMatchesRow.Statement (.config chan rid) := by
  show (0x1#4 ++ 0#20 ++ chan ++ rid) &&& 0xFFFFFF00#32 = 0x10000000#32
  revert chan rid
  decide +kernel

theorem WordMatchesRow.send (temp : BitVec 11) (hum : BitVec 7) (batt : Bool) :
    WordMatchesRow.Statement (.send temp hum batt) := by
  show (0x2#4 ++ 0#9 ++ BitVec.ofBool batt ++ hum ++ temp) &&& 0xFFF80000#32 = 0x20000000#32
  apply BitVec.eq_of_getLsbD_eq
  intro i hi
  simp only [BitVec.getLsbD_and, BitVec.getLsbD_append]
  interval_cases i <;> simp

theorem WordMatchesRow.clrerr : WordMatchesRow.Statement .clrerr := by
  show _ = _
  decide

theorem WordMatchesRow.obscure (b : Byte) : WordMatchesRow.Statement (.obscure b) := trivial

theorem WordMatchesRow.mix (b : Byte) : WordMatchesRow.Statement (.mix b) := trivial

theorem WordMatchesRow.frameBuild : WordMatchesRow.Statement .frameBuild := trivial

theorem WordMatchesRow.repeatStart (r : BitVec 2) : WordMatchesRow.Statement (.repeatStart r) := trivial

theorem WordMatchesRow.byteSerialize : WordMatchesRow.Statement .byteSerialize := trivial

theorem WordMatchesRow.channelRemap (ch : BitVec 3) : WordMatchesRow.Statement (.channelRemap ch) := trivial

theorem WordMatchesRow.tempEncode (temp : BitVec 11) : WordMatchesRow.Statement (.tempEncode temp) := trivial

theorem WordMatchesRow.humEncode (hum : BitVec 7) : WordMatchesRow.Statement (.humEncode hum) := trivial

theorem WordMatchesRow.payloadEncode (temp : BitVec 11) (hum : BitVec 7) (batt : Bool) :
    WordMatchesRow.Statement (.payloadEncode temp hum batt) := trivial

theorem WordMatchesRow.seqTick : WordMatchesRow.Statement .seqTick := trivial

end Sys2Proof.Laws
end

