-- ==== Sys2Proof/Laws/Sequencer.lean ====
section
/-! SUPPORT. What ENTER_SLOT, REPEAT_START, SEQ_TICK and an edge can answer. -/

namespace Sys2Proof.Machine

/-- ENTER_SLOT with BIDX inside FRM: everything it writes (R166). -/
theorem enterSlot_of_lt {c : Config} {k : BitVec 5} {s : State} (h : s.bidx.toNat < 10) :
    enterSlot c k s = .next { s with
      phase := .slot, slot := k, rem := holdTicks c c.halfBit
      w := if k = 2#5 then s.frm[s.bidx.toNat] else s.w
      line := if k = 0#5 then false else if k = 1#5 then true
        else (if k = 2#5 then s.frm[s.bidx.toNat] else s.w).getLsbD 0 } := by
  have hr : readFrm (s.startSlot k (holdTicks c c.halfBit)) (s.startSlot k (holdTicks c c.halfBit)).bidx.toNat =
      some s.frm[s.bidx.toNat] := readFrm_of_lt h
  by_cases h0 : k = 0#5
  · subst h0; rfl
  · by_cases h1 : k = 1#5
    · subst h1; rfl
    · by_cases h2 : k = 2#5
      · subst h2; simp only [enterSlot, h0, h1, if_false, if_true, hr]; rfl
      · simp only [enterSlot, h0, h1, h2, if_false]; rfl

/-- ENTER_SLOT of a slot other than 2 reads no byte (R166). -/
theorem enterSlot_of_ne_two {c : Config} {k : BitVec 5} {s : State} (h : k ≠ 2#5) :
    enterSlot c k s = .next { s with
      phase := .slot, slot := k, rem := holdTicks c c.halfBit
      line := if k = 0#5 then false else if k = 1#5 then true else s.w.getLsbD 0 } := by
  by_cases h0 : k = 0#5
  · subst h0; rfl
  · by_cases h1 : k = 1#5
    · subst h1; rfl
    · simp only [enterSlot, h0, h1, h, if_false]; rfl

/-- ENTER_SLOT(2) with BIDX outside FRM is the index fault. -/
theorem enterSlot_two_of_ge {c : Config} {s : State} (h : 10 ≤ s.bidx.toNat) :
    enterSlot c 2#5 s = .fault .indexRange := by
  have hr : readFrm (s.startSlot 2#5 (holdTicks c c.halfBit)) (s.startSlot 2#5 (holdTicks c c.halfBit)).bidx.toNat =
      none := readFrm_of_ge h
  have h0 : (2#5) ≠ 0#5 := by decide
  have h1 : (2#5) ≠ 1#5 := by decide
  simp only [enterSlot, h0, h1, if_false, if_true, hr]

/-- If ENTER_SLOT answers, it wrote the position, LINE and W, and nothing else. -/
theorem enterSlot_eq_next {c : Config} {k : BitVec 5} {s t : State} (h : enterSlot c k s = .next t) :
    t = { s with phase := .slot, slot := k, rem := holdTicks c c.halfBit, line := t.line, w := t.w } ∧
      (k ≠ 2#5 → t.w = s.w) := by
  by_cases hk : k = 2#5
  · subst hk
    by_cases hb : s.bidx.toNat < 10
    · rw [enterSlot_of_lt hb] at h
      cases h
      exact ⟨rfl, fun h => absurd rfl h⟩
    · rw [enterSlot_two_of_ge (by omega)] at h
      cases h
  · rw [enterSlot_of_ne_two hk] at h
    cases h
    exact ⟨rfl, fun _ => rfl⟩

/-- The markers of this hardware, and no fourth one (R110). -/
theorem markerOf_ctx (r : BitVec 2) :
    markerOf ctx r = if r = 0#2 then some 0x5E#8 else if r = 1#2 then some 0x9E#8 else if r = 2#2 then some 0xDE#8 else none := by
  have hr : r.toNat < 4 := r.isLt
  obtain ⟨n, hn⟩ : ∃ n, r.toNat = n := ⟨_, rfl⟩
  have e : r = BitVec.ofNat 2 n := by simp [← hn]
  subst e
  have : n < 4 := by omega
  interval_cases n <;> rfl

/-- If REPEAT_START answers, the frame was built from the marked copy of RAW, and slot 0 of byte 0 was entered (R111). -/
theorem repeatStart_eq_next {c : Config} {r : BitVec 2} {s t : State} (h : repeatStart c r s = .next t) :
    ∃ m f, markerOf c r = some m ∧ buildFrame c (loadFrame s.raw m s.frm) = .next f ∧
      t = { s with
        frm := f.build.frm, flen := f.flen, cs1 := f.build.cs1, cs2 := f.build.cs2
        rep := r, bidx := 0#4, phase := .slot, slot := 0#5, rem := holdTicks c c.halfBit, line := false } := by
  unfold repeatStart at h
  split at h
  · cases h
  · rename_i m hm
    obtain ⟨s1, h1, h2⟩ := andThen_eq_next.mp h
    obtain ⟨f, hf, rfl⟩ := frameBuild_eq_next h1
    rw [enterSlot_of_ne_two (by decide)] at h2
    cases h2
    exact ⟨m, f, hm, hf, rfl⟩

/-- REPEAT_START of a repetition of this hardware completes when the payload's count is at most 7 (R105, R111). -/
theorem repeatStart_completes {r : BitVec 2} {s : State} (hr : r.toNat < 3) (hc : countField s.raw[2] ≤ 7) :
    ∃ t, repeatStart ctx r s = .next t := by
  obtain ⟨m, hm⟩ : ∃ m, markerOf ctx r = some m := by
    rw [markerOf_ctx]
    have : r = 0#2 ∨ r = 1#2 ∨ r = 2#2 := by
      have hr4 : r.toNat < 4 := r.isLt
      rcases (by omega : r.toNat = 0 ∨ r.toNat = 1 ∨ r.toNat = 2) with h | h | h
      · exact .inl (BitVec.eq_of_toNat_eq (by simpa using h))
      · exact .inr (.inl (BitVec.eq_of_toNat_eq (by simpa using h)))
      · exact .inr (.inr (BitVec.eq_of_toNat_eq (by simpa using h)))
    rcases this with rfl | rfl | rfl <;> simp
  obtain ⟨f, hf⟩ := buildFrame_completes (frm := loadFrame s.raw m s.frm) hc
  have hb : frameBuild ctx (s.setFrm (loadFrame s.raw m s.frm)) =
      .next ((s.setFrm (loadFrame s.raw m s.frm)).setFrame f.build.frm f.flen f.build.cs1 f.build.cs2) := by
    simp [frameBuild, hf]
  exact ⟨_, by rw [repeatStart, hm]; simp only [hb, andThen_next]; exact enterSlot_of_ne_two (by decide)⟩

/-- What SEQ_TICK does, case by case (R165): nothing while idle; REM down while the hold lasts; else what follows the slot or
the gap. -/
theorem seqTick_cases (c : Config) (s : State) :
    (s.phase = .idle ∧ seqTick c s = .next s) ∨
      (s.phase ≠ .idle ∧ s.rem - 1#16 ≠ 0#16 ∧ seqTick c s = .next (s.setRem (s.rem - 1#16))) ∨
      (s.phase = .slot ∧ s.rem - 1#16 = 0#16 ∧ seqTick c s = endOfSlot c (s.setRem 0#16)) ∨
      (s.phase = .gap ∧ s.rem - 1#16 = 0#16 ∧ seqTick c s = endOfGap c (s.setRem 0#16)) := by
  cases hp : s.phase with
  | idle => exact .inl ⟨rfl, by simp [seqTick, hp]⟩
  | slot =>
    by_cases hr : s.rem - 1#16 = 0#16
    · exact .inr (.inr (.inl ⟨rfl, hr, by simp [seqTick, hp, countDown, hr]⟩))
    · exact .inr (.inl ⟨by simp, hr, by simp [seqTick, hp, countDown, hr]⟩)
  | gap =>
    by_cases hr : s.rem - 1#16 = 0#16
    · exact .inr (.inr (.inr ⟨rfl, hr, by simp [seqTick, hp, countDown, hr]⟩))
    · exact .inr (.inl ⟨by simp, hr, by simp [seqTick, hp, countDown, hr]⟩)

/-- `t` has the registers no sequencer rule writes as `s` has them: CFG, the error flag and cause, RAW, the REFUSED mark and
the model's own fields. -/
structure KeepsHostSide (s t : State) : Prop where
  cmdErr : t.cmdErr = s.cmdErr
  errCause : t.errCause = s.errCause
  cfgValid : t.cfgValid = s.cfgValid
  cfgChan : t.cfgChan = s.cfgChan
  cfgRid : t.cfgRid = s.cfgRid
  raw : t.raw = s.raw
  refused : t.refused = s.refused
  opResult : t.opResult = s.opResult
  inputs : t.inputs = s.inputs
  draws : t.draws = s.draws

theorem enterSlot_keepsHostSide {c : Config} {k : BitVec 5} {s t : State} (h : enterSlot c k s = .next t) :
    KeepsHostSide s t := by
  rw [(enterSlot_eq_next h).1]
  constructor <;> rfl

theorem repeatStart_keepsHostSide {c : Config} {r : BitVec 2} {s t : State} (h : repeatStart c r s = .next t) :
    KeepsHostSide s t := by
  obtain ⟨m, f, -, -, rfl⟩ := repeatStart_eq_next h
  constructor <;> rfl

theorem exitSlot_eq (s : State) : exitSlot s = s.setW (exitSlot s).w := by
  unfold exitSlot
  split <;> rfl

/-- SEQ_TICK writes nothing on the host's side: CFG, the error flag and cause, RAW and the model's own fields (R33). -/
theorem seqTick_keepsHostSide {c : Config} {s t : State} (h : seqTick c s = .next t) : KeepsHostSide s t := by
  rcases seqTick_cases c s with ⟨-, h'⟩ | ⟨-, -, h'⟩ | ⟨-, -, h'⟩ | ⟨-, -, h'⟩
  · rw [h'] at h; cases h; constructor <;> rfl
  · rw [h'] at h; cases h; constructor <;> rfl
  · rw [h', endOfSlot, exitSlot_eq] at h
    split at h
    · obtain ⟨h1, h2, h3, h4, h5, h6, h7, h8, h9, h10⟩ := enterSlot_keepsHostSide h
      exact ⟨h1, h2, h3, h4, h5, h6, h7, h8, h9, h10⟩
    · unfold endOfByte at h
      split at h
      · obtain ⟨h1, h2, h3, h4, h5, h6, h7, h8, h9, h10⟩ := enterSlot_keepsHostSide h
        exact ⟨h1, h2, h3, h4, h5, h6, h7, h8, h9, h10⟩
      · cases h; constructor <;> rfl
  · rw [h', endOfGap] at h
    split at h
    · obtain ⟨h1, h2, h3, h4, h5, h6, h7, h8, h9, h10⟩ := repeatStart_keepsHostSide h
      exact ⟨h1, h2, h3, h4, h5, h6, h7, h8, h9, h10⟩
    · cases h; constructor <;> rfl

/-- A frame's trace lasts as long as its segments together (R126). -/
theorem totalTicks_append (l m : List Segment) : totalTicks (l ++ m) = totalTicks l + totalTicks m := by
  simp [totalTicks]

/-! What an edge does (R187). -/

theorem onEdge_rst {e : Edge} {s : State} (h : e.rst = true) : onEdge e s = .next (resetEdge s) := by
  simp [onEdge, h]

@[simp] theorem onEdge_commandEdge (w : Word) (s : State) : onEdge (commandEdge w) s = onCommand w s := rfl

@[simp] theorem onEdge_tickEdge (s : State) : onEdge tickEdge s = onTick s := by
  simp [onEdge, tickEdge]

@[simp] theorem onEdge_tickCommandEdge (w : Word) (s : State) :
    onEdge (tickCommandEdge w) s = andThen (onTick s) (onCommand w) := rfl

/-- A word that decodes to an operation runs it (R160). -/
theorem onCommand_of_decode {w : Word} {i : Instr} (s : State) (h : decode w = .ok i) : onCommand w s = exec i s := by
  simp [onCommand, h]

/-- In a live state a step takes the coming edge's inputs and acts on them. -/
theorem step_of_cons {s : State} {e : Edge} {es : List Edge} (hl : s.refused = none) (hi : s.inputs = e :: es) :
    step s = onEdge e (s.setInputs es) := by
  simp [step, clockEdge, whenLive_of_live hl, hi]

/-- With no input scheduled a live state stays. -/
theorem step_of_nil {s : State} (hl : s.refused = none) (hi : s.inputs = []) : step s = .next s := by
  simp [step, clockEdge, whenLive_of_live hl, hi]

/-- A refused state stays refused (R183). -/
theorem step_of_refused {s : State} {r : Refusal} (h : s.refused = some r) : step s = .refused r :=
  whenLive_of_refused h

/-- Only commands are decoded: the internal operations have no word (R79). -/
theorem isCommand_of_decode {w : Word} {i : Instr} (h : decode w = .ok i) : isCommand i = true := by
  unfold decode at h
  repeat' split at h
  all_goals cases h
  all_goals rfl

end Sys2Proof.Machine
end

