-- ==== Sys2Proof/Laws/Script.lean ====
section
/-! SUPPORT. The poll of WAITIDLE ends: every tick of a busy state lowers `pollBound`. -/

namespace Sys2Proof.Machine

theorem one_le_holdLeft (s : State) : 1 ≤ holdLeft s := by
  unfold holdLeft
  split
  · omega
  · rename_i h
    have : s.rem.toNat ≠ 0 := fun h0 => h (BitVec.eq_of_toNat_eq (by simpa using h0))
    omega

/-- A tick that does not end the segment takes one off what is left of it. -/
theorem holdLeft_countDown {s : State} (h : s.rem - 1#16 ≠ 0#16) :
    holdLeft (s.setRem (s.rem - 1#16)) + 1 = holdLeft s := by
  have h0 : (s.rem - 1#16).toNat ≠ 0 := fun h0 => h (BitVec.eq_of_toNat_eq (by simpa using h0))
  have hlt := s.rem.isLt
  have ht : (s.rem - 1#16).toNat = (65535 + s.rem.toNat) % 65536 := by simp [BitVec.toNat_sub]
  show (if s.rem - 1#16 = 0#16 then 65536 else (s.rem - 1#16).toNat) + 1 = _
  rw [if_neg h]
  unfold holdLeft
  split
  · rename_i hz
    rw [ht, hz]; rfl
  · rename_i hz
    have : s.rem.toNat ≠ 0 := fun h0 => hz (BitVec.eq_of_toNat_eq (by simpa using h0))
    omega

/-- ENTER_SLOT of this hardware, if it answers: a slot of 500 ticks in the same byte and repetition, and slot 2 only of a
byte of FRM (R166). -/
theorem enterSlot_ctx_eq_next {k : BitVec 5} {s t : State} (h : enterSlot ctx k s = .next t) :
    t.phase = .slot ∧ t.slot = k ∧ holdLeft t = 500 ∧ t.bidx = s.bidx ∧ t.rep = s.rep ∧
      (k = 2#5 → s.bidx.toNat < 10) := by
  have ht := (enterSlot_eq_next h).1
  rw [holdTicks_halfBit] at ht
  rw [ht]
  refine ⟨rfl, rfl, rfl, rfl, rfl, fun hk => ?_⟩
  by_contra hb
  subst hk
  rw [enterSlot_two_of_ge (by omega)] at h
  cases h

theorem exitSlot_position (s : State) : (exitSlot s).slot = s.slot ∧ (exitSlot s).bidx = s.bidx ∧
    (exitSlot s).rep = s.rep ∧ (exitSlot s).flen = s.flen := by
  rw [exitSlot_eq]
  exact ⟨rfl, rfl, rfl, rfl⟩

theorem pollBound_of_busy {s : State} (h : s.phase ≠ .idle) : pollBound s = holdLeft s + afterHold s :=
  if_pos (busy_eq_true.mpr h)

/-- The tick that ends a slot, if it answers: what can follow shrinks by the length of the segment it enters. -/
theorem endOfSlot_bound {s t : State} (hp : s.phase = .slot) (h : endOfSlot ctx s = .next t) :
    t.phase ≠ .idle ∧ holdLeft t + afterHold t ≤ afterHold s := by
  have hslot := s.slot.isLt
  have hbidx := s.bidx.isLt
  obtain ⟨e1, e2, e3, -⟩ := exitSlot_position s
  simp only [endOfSlot, e1] at h
  split at h
  · rename_i hlt
    obtain ⟨t1, t2, t3, t4, t5, t6⟩ := enterSlot_ctx_eq_next h
    have hk : (s.slot + 1#5).toNat = s.slot.toNat + 1 := by
      rw [BitVec.toNat_add]; simp; omega
    have h2 : s.slot.toNat = 1 → s.bidx.toNat < 10 := fun hs => by
      rw [← e2]
      exact t6 (BitVec.eq_of_toNat_eq (by rw [hk, hs]; rfl))
    refine ⟨by simp [t1], ?_⟩
    simp only [afterHold, t1, hp, t2, t3, t4, t5, e2, e3, hk]
    split_ifs <;> omega
  · unfold endOfByte at h
    split at h
    · obtain ⟨t1, t2, t3, t4, t5, -⟩ := enterSlot_ctx_eq_next h
      rw [State.setBidx_bidx, e2] at t4
      rw [State.setBidx_rep, e3] at t5
      have hk : (s.bidx + 1#4).toNat = (s.bidx.toNat + 1) % 16 := by simp [BitVec.toNat_add]
      refine ⟨by simp [t1], ?_⟩
      unfold afterHold bytesBound
      simp only [t1, hp, t2, t3, t4, t5, hk, show (0#5).toNat = 0 from rfl]
      split_ifs <;> omega
    · cases h
      have h1 : holdLeft ((exitSlot s).startGap (holdTicks ctx ctx.gap)) = 30000 := by
        rw [holdTicks_gap]; rfl
      refine ⟨by simp, ?_⟩
      unfold afterHold bytesBound
      simp only [h1, State.startGap_phase, State.startGap_rep, e3, hp]
      split_ifs <;> omega

/-- The tick that ends a gap, if it answers: the transmission ends, or what can follow shrinks by the slot it enters. -/
theorem endOfGap_bound {s t : State} (hp : s.phase = .gap) (h : endOfGap ctx s = .next t) :
    t.phase = .idle ∨ holdLeft t + afterHold t ≤ afterHold s := by
  unfold endOfGap at h
  split at h
  · rename_i hlt
    obtain ⟨m, f, -, -, rfl⟩ := repeatStart_eq_next h
    have hlt' : s.rep.toNat + 1 < 3 := hlt
    have hk : (s.rep + 1#2).toNat = s.rep.toNat + 1 := by
      rw [BitVec.toNat_add]; simp; omega
    right
    unfold afterHold bytesBound
    simp only [holdLeft, holdTicks_halfBit, hp, hk]
    simp
    omega
  · cases h
    exact .inl rfl

/-- Every tick of a busy state that answers lowers the bound, in sound states and in others. -/
theorem seqTick_pollBound {s t : State} (hb : s.phase ≠ .idle) (h : seqTick ctx s = .next t) :
    pollBound t + 1 ≤ pollBound s := by
  have hold := one_le_holdLeft s
  rw [pollBound_of_busy hb]
  rcases seqTick_cases ctx s with ⟨hp, -⟩ | ⟨-, hr, h'⟩ | ⟨hp, -, h'⟩ | ⟨hp, -, h'⟩
  · exact absurd hp hb
  · rw [h'] at h
    cases h
    have hh := holdLeft_countDown hr
    have ha : afterHold (s.setRem (s.rem - 1#16)) = afterHold s := rfl
    rw [pollBound_of_busy (by simpa using hb)]
    omega
  · obtain ⟨ht, hle⟩ := endOfSlot_bound (s := s.setRem 0#16) (by simpa using hp) (h' ▸ h)
    have ha : afterHold (s.setRem 0#16) = afterHold s := rfl
    rw [pollBound_of_busy ht]
    omega
  · have ha : afterHold (s.setRem 0#16) = afterHold s := rfl
    by_cases ht : t.phase = .idle
    · have : pollBound t = 0 := if_neg (by simp [busy, ht])
      omega
    · have := (endOfGap_bound (s := s.setRem 0#16) (by simpa using hp) (h' ▸ h)).resolve_left ht
      rw [pollBound_of_busy ht]
      omega

/-- The poll, with at least the bound's number of ticks, answers an idle state. -/
theorem pollBusy_idle (n taken : Nat) (s : State) (p : Nat × State) (hn : pollBound s ≤ n)
    (h : pollBusy n taken s = .next p) : busy p.2 = false := by
  induction n generalizing taken s with
  | zero =>
    cases h
    by_contra hb
    have hp : s.phase ≠ .idle := busy_eq_true.mp (by simpa using hb)
    have := one_le_holdLeft s
    rw [pollBound_of_busy hp] at hn
    omega
  | succ n ih =>
    simp only [pollBusy] at h
    split at h
    · rename_i hb
      obtain ⟨t, ht, hr⟩ := andThen_eq_next.mp h
      have ht' := (whenLive_eq_next.mp ht).2
      have := seqTick_pollBound (busy_eq_true.mp hb) ht'
      exact ih (taken + 1) t (by omega) hr
    · rename_i hb
      cases h
      simpa using hb

/-- WAITIDLE ends with BUSY = 0 from every state, whatever it answers (R81). -/
theorem waitIdle_idle {s t : State} {n : Nat} (h : waitIdle s = .next (n, t)) : busy t = false :=
  pollBusy_idle (pollBound s) 0 s (n, t) le_rfl h

/-- While idle WAITIDLE passes no tick. -/
theorem waitIdle_of_idle {s : State} (h : s.phase = .idle) : waitIdle s = .next (0, s) := by
  simp [waitIdle, pollBound, busy, h, pollBusy]

end Sys2Proof.Machine
end

