-- ==== Sys2Proof/Machine/Assembler.lean ====
section
/-! DEFINITION. The text of the assembler (R80) and of the host-script directives (R81), read from its characters. -/

namespace Sys2Proof.Machine

/-- The value of a decimal digit. -/
def decDigit (ch : Char) : Option Nat :=
  if 48 ≤ ch.toNat ∧ ch.toNat ≤ 57 then some (ch.toNat - 48) else none

/-- The value of a hexadecimal digit; both cases are read (log entry 14). -/
def hexDigit (ch : Char) : Option Nat :=
  if 97 ≤ ch.toNat ∧ ch.toNat ≤ 102 then some (ch.toNat - 87)
  else if 65 ≤ ch.toNat ∧ ch.toNat ≤ 70 then some (ch.toNat - 55)
  else decDigit ch

/-- A number in the given base from its digits, the most significant first; `acc` is what stands before them. -/
def readDigits (base : Nat) (digit : Char → Option Nat) : Nat → List Char → Option Nat
  | acc, [] => some acc
  | acc, ch :: rest => (digit ch).bind fun d => readDigits base digit (acc * base + d) rest

/-- A value: decimal, or hexadecimal after `0x` (R80). At least one digit must stand. -/
def readNat (text : List Char) : Option Nat :=
  if text.take 2 = ['0', 'x'] then
    if text.drop 2 = [] then none else readDigits 16 hexDigit 0 (text.drop 2)
  else if text = [] then none
  else readDigits 10 decDigit 0 text

/-- A signed value: a minus sign negates what follows it (R80: `temp=<-1024..1023>`). -/
def readInt (text : List Char) : Option Int :=
  if text.take 1 = ['-'] then (readNat (text.drop 1)).map fun n => -(n : Int)
  else (readNat text).map fun n => (n : Int)

/-- `batt=<ok|low>` (R80). -/
def readBatt (text : List Char) : Option Bool :=
  if text = ['o', 'k'] then some true
  else if text = ['l', 'o', 'w'] then some false
  else none

/-- The text without the spaces at its ends. -/
def trimSpaces (text : List Char) : List Char :=
  ((text.dropWhile fun ch => ch == ' ').reverse.dropWhile fun ch => ch == ' ').reverse

/-- The parts of a text between its commas. -/
def splitCommas : List Char → List (List Char)
  | [] => [[]]
  | ch :: rest =>
    if ch = ',' then [] :: splitCommas rest
    else
      match splitCommas rest with
      | [] => [[ch]]
      | part :: parts => (ch :: part) :: parts

/-- The value of the operand `name=value` (R80); none under another name. -/
def operandValue (name text : List Char) : Option (List Char) :=
  let t := trimSpaces text
  if t.take (name.length + 1) = name ++ ['='] then some (t.drop (name.length + 1)) else none

/-- The operands of CONFIG, in the order R80 shows. -/
def readConfig (operands : List (List Char)) : Option AsmLine :=
  match operands with
  | [a, b] =>
    ((operandValue ['c', 'h'] a).bind readNat).bind fun ch =>
      ((operandValue ['i', 'd'] b).bind readNat).map fun id => .config ch id
  | _ => none

/-- The operands of SEND, in the order R80 shows. -/
def readSend (operands : List (List Char)) : Option AsmLine :=
  match operands with
  | [a, b, d] =>
    ((operandValue ['t', 'e', 'm', 'p'] a).bind readInt).bind fun temp =>
      ((operandValue ['h', 'u', 'm'] b).bind readNat).bind fun hum =>
        ((operandValue ['b', 'a', 't', 't'] d).bind readBatt).map fun batt => .send temp hum batt
  | _ => none

/-- A command line (R80): the mnemonic up to the first space, then its operands. -/
def parseLine (text : List Char) : Option AsmLine :=
  let line := trimSpaces text
  let mnemonic := line.takeWhile fun ch => ch != ' '
  let rest := trimSpaces (line.dropWhile fun ch => ch != ' ')
  if mnemonic = ['N', 'O', 'P'] then if rest = [] then some .nop else none
  else if mnemonic = ['C', 'L', 'R', 'E', 'R', 'R'] then if rest = [] then some .clrerr else none
  else if mnemonic = ['C', 'O', 'N', 'F', 'I', 'G'] then readConfig (splitCommas rest)
  else if mnemonic = ['S', 'E', 'N', 'D'] then readSend (splitCommas rest)
  else if mnemonic = ['.', 'w', 'o', 'r', 'd'] then (readNat rest).map fun v => .word v
  else none

/-- The assembler from text to word (R80): none when the line does not parse or an operand does not fit its field. -/
def assembleText (text : List Char) : Option Word := (parseLine text).bind assemble

/-- The line without the `+TICK` at its end; none when it does not end so. -/
def dropTickMark (line : List Char) : Option (List Char) :=
  let n := line.length - 5
  if line.drop n = ['+', 'T', 'I', 'C', 'K'] then some (trimSpaces (line.take n)) else none

/-- A command line of a host program (R81): alone on its edge, or with a tick on the same edge when it ends in `+TICK`
(95_test_vectors.md, Notation). -/
def parseCommandLine (line : List Char) : Option ScriptLine :=
  match dropTickMark line with
  | some command => (parseLine command).map fun a => .command a true
  | none => (parseLine line).map fun a => .command a false

/-- A line of a host program (R80, R81): a directive or a command line. -/
def parseScriptLine (text : List Char) : Option ScriptLine :=
  let line := trimSpaces text
  let word := line.takeWhile fun ch => ch != ' '
  let rest := trimSpaces (line.dropWhile fun ch => ch != ' ')
  if word = ['T', 'I', 'C', 'K', 'S'] then (readNat rest).map fun n => .ticks n
  else if word = ['W', 'A', 'I', 'T', 'I', 'D', 'L', 'E'] then if rest = [] then some .waitIdle else none
  else if word = ['R', 'E', 'S', 'E', 'T'] then if rest = [] then some .reset else none
  else if word = ['R', 'E', 'A', 'D'] then if rest = [] then some .read else none
  else parseCommandLine line

end Sys2Proof.Machine
end

