-- ==== Sys2Proof/Tests/Slice0.lean ====
section
/-! SUPPORT. The model's own tests: ill-formed terms, words written out from the formats, vectors of
spec/95_test_vectors.md, and, for each statement with hypotheses, a state and operands that meet them. -/

namespace Sys2Proof.Tests

set_option Elab.async false

open Sys2Proof Sys2Proof.Machine

/-! ## Helpers -/

/-- The state an outcome answers, or the reset state where it answers none. -/
def stateOf (r : Result) : State :=
  match r with
  | .next s => s
  | _ => State.reset

/-- Does the build answer the frame `f`? -/
def answers (o : Host.Outcome Framed Fault Refusal) (f : Framed) : Bool :=
  match o with
  | .next g => decide (g = f)
  | _ => false

theorem answers_next {o : Host.Outcome Framed Fault Refusal} {f : Framed} (h : answers o f = true) : o = .next f := by
  cases o <;> simp_all [answers]

/-- The reason of a refusal. -/
def whyRefused (r : Result) : Option Refusal :=
  match r with
  | .refused x => some x
  | _ => none

/-- The state after the given edges. -/
def after (es : List Edge) (s : State) : State := es.foldl (fun s e => stateOf (onEdge e s)) s

/-- The state a script line leaves. -/
def lineState (r : Host.Outcome LineResult Fault Refusal) : State :=
  match r with
  | .next x => x.state
  | _ => State.reset

/-- What the lines of a script show: the ticks of each `WAITIDLE` and the sample of each `READ`. -/
def lineShows (r : Host.Outcome (List LineResult) Fault Refusal) : List (Option Nat × Option Ports) :=
  match r with
  | .next l => l.map fun x => (x.waited, x.sample)
  | _ => []

/-- Idle and configured: `RESET; CONFIG ch=2, id=5` (P1 line 2). -/
def configured : State := after [commandEdge 0x10000045#32] State.reset

/-- Sending: the line 3 of P1. -/
def sending : State := after [commandEdge 0x200510EB#32] configured

/-- The last tick of slot 17 of the last byte of frame 0 (t = 89999 in L2.5). -/
def lastSlot : State :=
  { sending with bidx := 9, slot := 17, rem := 1, line := true, w := 0xFF }

/-- The last tick of the last gap (t = 359999 in L2.5). -/
def lastGap : State := { stateOf (exec (.repeatStart 2) sending) with phase := .gap, rem := 1, bidx := 9, slot := 17 }

/-- The last tick of slot `k` of the frame's first byte, 0x75. -/
def slotEnd (k : BitVec 5) : State :=
  { sending with slot := k, rem := 1, line := slotLevel 0x75 k.toNat, w := workingValue 0x75 k.toNat }

/-! ## Well-formedness: each check refuses an ill-formed term -/

theorem test_wf_repeat_three : wellFormed (.repeatStart 3) = false := by decide
theorem test_wf_channel_zero : wellFormed (.channelRemap 0) = false := by decide
theorem test_wf_channel_six : wellFormed (.channelRemap 6) = false := by decide
theorem test_wf_temp_minus_1000 : wellFormed (.tempEncode (BitVec.ofInt 11 (-1000))) = false := by decide
theorem test_wf_hum_100 : wellFormed (.humEncode 100) = false := by decide
theorem test_wf_payload_temp : wellFormed (.payloadEncode 1000 0 true) = false := by decide
theorem test_wf_payload_hum : wellFormed (.payloadEncode 0 100 true) = false := by decide
theorem test_wf_edges_accepted :
    (wellFormed (.repeatStart 2) && wellFormed (.channelRemap 1) && wellFormed (.channelRemap 5) &&
      wellFormed (.tempEncode (BitVec.ofInt 11 (-999))) && wellFormed (.humEncode 99)) = true := by decide

/-! ## Decoding: words written out from R71 to R73, field by field -/

theorem test_decode_nop : decode 0b0000_0000000000000000000000000000#32 = .ok .nop := by decide
theorem test_decode_clrerr : decode 0b0011_0000000000000000000000000000#32 = .ok .clrerr := by decide
theorem test_decode_config : decode 0b0001_00000000000000000000_010_00101#32 = .ok (.config 2 5) := by decide
theorem test_decode_send : decode 0b0010_000000000_1_0100010_00011101011#32 = .ok (.send 235 34 true) := by decide
theorem test_decode_send_low : decode 0b0010_000000000_0_0000000_11111111011#32 = .ok (.send 0x7FB 0 false) := by decide
theorem test_decode_reserved_op : decode 0xFFFFFFFF#32 = .error .reservedOp := by decide
theorem test_decode_reserved_op_first : decode 0x40000000#32 = .error .reservedOp := by decide
theorem test_decode_reserved_bits_config : decode 0x10000100#32 = .error .reservedBits := by decide
theorem test_decode_reserved_bits_send : decode 0x200D10EB#32 = .error .reservedBits := by decide
theorem test_decode_table_word : decodeTableWord 32 0x100000BF = some (.config 5 31) := by decide
theorem test_encode_send : encode (.send 0x3E7 99 true) = some 0x20071BE7#32 := by decide
theorem test_assemble_rejects : assemble (.send 1024 0 true) = none ∧ assemble (.config 8 0) = none := by decide
theorem test_assemble_text :
    assembleText "SEND temp=-235, hum=34, batt=ok".toList = some 0x20051715#32 ∧
    assembleText "CONFIG ch=5, id=0x1F".toList = some 0x100000BF#32 ∧
    assembleText "CONFIG id=5, ch=2".toList = none ∧ assembleText ".word 0xFFFFFFFF".toList = some 0xFFFFFFFF#32 ∧
    parseLine (renderLine (.send (-5) 0 false)).toList = some (.send (-5) 0 false) ∧
    parseScriptLine "TICKS 500".toList = some (.ticks 500) := by decide +kernel
theorem test_script_line_with_tick :
    parseScriptLine "SEND temp=-235, hum=34, batt=ok +TICK".toList = some (.command (.send (-235) 34 true) true) ∧
    parseScriptLine "CONFIG ch=2, id=5".toList = some (.command (.config 2 5) false) ∧
    parseScriptLine "RESET +TICK".toList = none := by decide +kernel
theorem test_fetch_config : cfgPort (stateOf (step (State.reset.withFetchWord 32 0x10000045))) = 0x45#8 := by decide

/-! ## The transform (L2.1, L2.2) -/

theorem test_obscure_corners :
    [0x00#8, 0x01#8, 0x80#8, 0xFF#8, 0x45#8, 0xAA#8].map obscure = [0x00#8, 0xFF#8, 0x80#8, 0x55#8, 0xC3#8, 0x66#8] := by
  decide
theorem test_exec_obscure : (stateOf (exec (.obscure 0x45) State.reset)).opResult = .byte 0xC3 := by decide
theorem test_mix_corners :
    [0x01#8, 0x80#8, 0x95#8, 0xFF#8, 0xA0#8, 0x2E#8].map (mix ctx) = [0x2E#8, 0x35#8, 0x00#8, 0x1A#8, 0x0D#8, 0x6D#8] := by
  decide
theorem test_exec_mix : (stateOf (exec (.mix 0x01) State.reset)).opResult = .byte 0x2E := by decide

/-! ## The frame builder and the repeater (R108, L2.3, L2.4) -/

/-- The frame buffer of the scenario's first frame before FRAME_BUILD. -/
def scenarioBuffer : Vector Byte 10 := #v[0x75, 0x45, 0xCE, 0x5E, 0x35, 0xC2, 0x34, 0xF1, 0, 0]

theorem test_frame_of_scenario :
    (stateOf (exec .frameBuild (State.reset.setFrm scenarioBuffer))).frm =
      #v[0x75, 0xC3, 0xBA, 0x5E, 0x13, 0xBE, 0xEC, 0xAF, 0x97, 0x0D] := by decide +kernel
theorem test_frame_counts_three_and_eight :
    (stateOf (exec .frameBuild (State.reset.setFrm #v[0x75, 0x45, 0xC6, 0x5E, 7, 7, 7, 7, 7, 7]))).frm =
      #v[0x75, 0xC3, 0x42, 0x5E, 0x81, 0x68, 7, 7, 7, 7] ∧
    whyRefused (exec .frameBuild (State.reset.setFrm #v[0x75, 0x45, 0x10, 0, 0, 0, 0, 0, 0, 0])) =
      some .frameCapacity := by decide +kernel
theorem test_frame_marker_in_transform :
    (match buildFrame { ctx with markerInTransform := true } scenarioBuffer with
      | .next f => f.build.frm
      | _ => scenarioBuffer) = #v[0x75, 0xC3, 0xBA, 0xCA, 0x13, 0xBE, 0xEC, 0xAF, 0x5D, 0x49] := by
  decide +kernel
theorem test_repeat_start_one : (stateOf (exec (.repeatStart 1) sending)).frm =
    #v[0x75, 0xC3, 0xBA, 0x9E, 0x13, 0xBE, 0xEC, 0xAF, 0x97, 0x0D] := by decide +kernel

/-! ## The payload encoder (L2.6) -/

theorem test_payload_remapped_low :
    (stateOf (exec (.payloadEncode (BitVec.ofInt 11 (-5)) 0 false) { configured with cfgChan := 5, cfgRid := 31 })).raw =
      #v[0x75, 0xDF, 0x0E, 0x00, 0x05, 0x40, 0x00, 0xF1] := by decide +kernel
theorem test_temp_minus_999 :
    (stateOf (exec (.tempEncode (BitVec.ofInt 11 (-999))) State.reset)).raw = #v[0, 0, 0, 0, 0x99, 0x49, 0, 0] := by
  decide +kernel
theorem test_temp_100 : (stateOf (exec (.tempEncode 100) State.reset)).raw = #v[0, 0, 0, 0, 0x00, 0xC1, 0, 0] := by
  decide +kernel
theorem test_hum_99 : (stateOf (exec (.humEncode 99) State.reset)).raw = #v[0, 0, 0, 0, 0, 0, 0x99, 0] := by
  decide +kernel
theorem test_remap_4 : (stateOf (exec (.channelRemap 4) State.reset)).opResult = .channel 5 := by decide

/-! ## The line encoder and the sequencer (L2.5, L2.8) -/

theorem test_levels_of_75 : (byteTrace ctx 0x75).map Segment.level =
    [false, true, true, false, false, true, true, false, false, true, true, false, true, false, true, false, false, true] := by
  decide
theorem test_serialize_0D : (match (stateOf (exec .byteSerialize { sending with bidx := 9 })).opResult with
    | .segments l => l.map Segment.level
    | _ => []) =
    [false, true, true, false, false, true, true, false, true, false, false, true, false, true, false, true, false, true] := by
  decide +kernel
theorem test_tick_counts_and_enters_slot_2 :
    (stateOf (exec .seqTick sending)).rem = 499#16 ∧ (stateOf (exec .seqTick (slotEnd 1))).w = 0x75#8 := by decide +kernel
theorem test_tick_enters_the_gap_and_ends_the_last_one :
    (stateOf (exec .seqTick lastSlot)).phase = .gap ∧ (stateOf (exec .seqTick lastSlot)).rem = 30000#16 ∧
    (stateOf (exec .seqTick lastSlot)).line = false ∧ busy (stateOf (exec .seqTick lastGap)) = false := by decide +kernel

/-! ## The commands, errors and edges (L2.7, L2.8, P3, P4, P5) -/

theorem test_nop_keeps_the_ports : readPorts (after [commandEdge 0] sending) = readPorts sending := by decide +kernel
theorem test_config_idle_and_busy : statusPort configured = 0x04#8 ∧ cfgPort configured = 0x45#8 ∧
    statusPort (after [commandEdge 0x10000000#32] sending) = 0x1F#8 := by decide +kernel
theorem test_config_channel_zero : whyRefused (onCommand 0x10000000#32 State.reset) = some .chanRange := by decide +kernel
theorem test_send_accepted : sending.raw = #v[0x75, 0x45, 0xCE, 0x00, 0x35, 0xC2, 0x34, 0xF1] ∧
    statusPort sending = 0x05#8 ∧ sending.rem = 500#16 ∧ sending.line = false ∧
    (after [tickCommandEdge 0x20051715#32] lastGap).raw = #v[0x75, 0x45, 0xCE, 0x00, 0x35, 0x42, 0x34, 0xF1] := by
  decide +kernel
theorem test_send_turned_away :
    statusPort (after [commandEdge 0x200510EB#32] State.reset) = 0x22#8 ∧
    whyRefused (onCommand 0x2007FBFF#32 configured) = some .tempRange ∧
    whyRefused (onCommand 0x20072000#32 configured) = some .humRange := by decide +kernel
theorem test_first_cause_kept_until_clrerr :
    statusPort (after [commandEdge 0x200510EB#32, commandEdge 0x40000000#32] State.reset) = 0x22#8 ∧
    statusPort (after [commandEdge 0x200510EB#32, commandEdge 0x30000000#32] State.reset) = 0x00#8 := by decide +kernel
/-- The state after P4's line 5 and what `WAITIDLE` and `READ` show when the last gap has one tick left (P1 line 6). -/
theorem test_script_lines_on_the_last_tick :
    ((runLine (.command (.send (-235) 34 true) true) lastGap).map lineState).map (fun s => (statusPort s, s.rem)) =
      some (0x05#8, 500#16) ∧
    (runScript [.waitIdle, .read] lastGap).map lineShows =
      some [(some 1, none), (none, some ⟨false, 0x04#8, 0x45#8⟩)] := by decide +kernel
theorem test_reset_while_sending :
    readPorts (after [rstEdge] sending) = ⟨false, 0x00#8, 0x00#8⟩ := by decide +kernel
theorem test_marked_state_is_refused :
    whyRefused (step { (sending.markRefused .tempRange) with inputs := [rstEdge] }) = some .tempRange := by decide +kernel

/-! ## Witnesses: for each statement with hypotheses, a state and operands that meet them, clause by clause -/

theorem witness_CommandsDecodeFromTheirWords :
    (isCommand (.config 7 31) && wellFormed (.config 7 31) && isCommand (.send 0x400 127 true) &&
      wellFormed (.send 0x400 127 true)) = true := by decide

theorem witness_DecodedWordsAreTheCommandsWords :
    decode 0x2007FFFF#32 = .ok (.send 2047 127 true) ∧ decode 0x100000FF#32 = .ok (.config 7 31) := by decide

theorem witness_DecodingFollowsTheRuleOnEveryWord_errors :
    decode 0x40000000#32 = .error .reservedOp ∧ decode 0xF0000000#32 = .error .reservedOp ∧
    decode 0x00000001#32 = .error .reservedBits ∧ decode 0x3FFFFFFF#32 = .error .reservedBits ∧
    decode 0x10000100#32 = .error .reservedBits ∧ decode 0x20080000#32 = .error .reservedBits := by decide

theorem witness_DecodingFollowsTheRuleOnEveryWord_fields :
    decode 0x100000FF#32 = .ok (.config 7 31) ∧ decode 0x2003F800#32 = .ok (.send 0 127 false) := by decide

theorem witness_AssemblerAcceptsWhatFits :
    assemble (.config 7 31) = some 0x100000FF#32 ∧ assemble (.send (-1024) 127 false) = some 0x2003FC00#32 ∧
    assemble (.send 1023 0 true) = some 0x200403FF#32 := by decide

theorem witness_StepRunsTheDecodedCommand :
    sending.refused = none ∧ decode 0x30000000#32 = .ok .clrerr := by decide +kernel

theorem witness_ResetThenTickThenCommandOnOneEdge_clauses_1_2 : sending.refused = none ∧
    (⟨true, true, true, 0x200510EB⟩ : Edge).rst = true ∧ (tickCommandEdge 0x30000000#32).rst = false := by decide +kernel

theorem witness_ResetThenTickThenCommandOnOneEdge_clause_3 :
    lastGap.refused = none ∧ lastGap.phase = .gap ∧ lastGap.rep = 2#2 ∧ lastGap.rem = 1#16 ∧ lastGap.cfgValid = true ∧
    chanLegal lastGap.cfgChan = true ∧ decode 0x20051715#32 = .ok (.send 0x715 34 true) ∧ tempLegal 0x715 = true ∧
    humLegal 34 = true := by decide +kernel

theorem witness_QuietEdgesChangeNothing : sending.refused = none := by decide +kernel

theorem witness_ReservedWordsRaiseTheirCause : sending.refused = none ∧ 4 ≤ (0x40000000#32).toNat / 2 ^ 28 ∧
    4 ≤ (0xFFFFFFFF#32).toNat / 2 ^ 28 ∧ decode 0x00000001#32 = .error .reservedBits := by decide +kernel

theorem witness_CommandErrorsLeaveTheTransmissionAlone :
    ticks 2 (slotEnd 0) = .next { sending with slot := 1, rem := 499, line := true, w := 0x75 } := by rfl

/-- A command error is pending, and the coming edge carries a tick and a NOP. -/
def erring : State := { sending with cmdErr := true, errCause := 2, inputs := [tickCommandEdge 0] }

theorem witness_FirstErrorCauseStaysUntilCleared :
    erring.cmdErr = true ∧ erring.inputs = [tickCommandEdge 0] ∧ (tickCommandEdge 0).rst = false ∧
    ((tickCommandEdge 0).cmdValid = true → decode (tickCommandEdge 0).cmdWord ≠ .ok .clrerr) ∧
    step erring = .next { erring with rem := 499, inputs := [] } := by
  exact ⟨rfl, rfl, rfl, by decide, rfl⟩

theorem witness_ResetEdgeGivesTheResetValues :
    { erring with inputs := [⟨true, true, true, 0x200510EB⟩] }.refused = none ∧
    (⟨true, true, true, 0x200510EB⟩ : Edge).rst = true := by decide +kernel

theorem witness_StateAfterResetIsIdle : decode 0x10000045#32 = .ok (.config 2 5) := by decide

theorem witness_RefusedStatesHaveNoMeaning :
    (sending.markRefused .tempRange).refused = some .tempRange ∧
    (State.reset.markRefused .chanRange).refused = some .chanRange := by decide +kernel

/-! The sound states: idle, sending in slot 0, in the last slot of a frame, in the last gap. -/

theorem witness_inv_configured : Inv configured := by
  constructor <;> first | decide +kernel | (intro h; exact absurd (by decide +kernel) h) |
    (intro h; exact absurd h (by decide +kernel))

theorem witness_payload : PayloadLayout { sending with inputs := [tickEdge] } := by
  constructor <;> first | decide +kernel | exact ⟨2, rfl, by decide +kernel⟩

theorem witness_EveryStepKeepsTheInvariant :
    Inv { sending with inputs := [tickEdge] } ∧
    step { sending with inputs := [tickEdge] } = .next { sending with rem := 499 } := by
  refine ⟨⟨by decide +kernel, by decide +kernel, by decide +kernel, by decide +kernel, by decide +kernel, by decide +kernel,
    by decide +kernel, fun _ => witness_payload, fun _ => ⟨0x5E, by decide +kernel, answers_next (by decide +kernel)⟩,
    fun _ => ?_, by decide +kernel⟩, rfl⟩
  exact ⟨by decide +kernel, by decide +kernel, by decide +kernel, 0x75, by decide +kernel, by decide +kernel,
    by decide +kernel⟩

theorem witness_inv_lastSlot : Inv lastSlot := by
  refine ⟨by decide +kernel, by decide +kernel, by decide +kernel, by decide +kernel, by decide +kernel, by decide +kernel,
    by decide +kernel, fun _ => ?_, fun _ => ⟨0x5E, by decide +kernel, answers_next (by decide +kernel)⟩, fun _ => ?_,
    by decide +kernel⟩
  · constructor <;> first | decide +kernel | exact ⟨2, rfl, by decide +kernel⟩
  · exact ⟨by decide +kernel, by decide +kernel, by decide +kernel, 0x0D, by decide +kernel, by decide +kernel,
      by decide +kernel⟩

theorem witness_inv_lastGap : Inv lastGap := by
  refine ⟨by decide +kernel, by decide +kernel, by decide +kernel, by decide +kernel, by decide +kernel, by decide +kernel,
    by decide +kernel, fun _ => ?_, fun _ => ⟨0xDE, by decide +kernel, answers_next (by decide +kernel)⟩,
    fun h => absurd h (by decide +kernel), by decide +kernel⟩
  constructor <;> first | decide +kernel | exact ⟨2, rfl, by decide +kernel⟩

theorem witness_LegalInputsNeverStopTheMachine :
    Inv { sending with inputs := [tickEdge] } ∧ nextEdgeLegal { sending with inputs := [tickEdge] } = true ∧
    legalEdge (commandEdge 0x200403E7#32) = true ∧ legalEdge (commandEdge 0x40000000#32) = true :=
  ⟨witness_EveryStepKeepsTheInvariant.1, by decide +kernel, by decide +kernel, by decide +kernel⟩

/-! The commands. -/

theorem witness_NopChangesNothing :
    sending.refused = none ∧ { sending with rem := 17 }.phase ≠ .idle ∧ { sending with rem := 17 }.rem = 17#16 ∧
    (0x00000001#32).toNat / 2 ^ 28 = 0 ∧ (0x00000001#32).toNat % 2 ^ 28 ≠ 0 ∧
    (0x0FFFFFFF#32).toNat / 2 ^ 28 = 0 ∧ (0x0FFFFFFF#32).toNat % 2 ^ 28 ≠ 0 := by decide +kernel

theorem witness_ConfigLoadsTheIdentityWhileIdle :
    State.reset.refused = none ∧ State.reset.phase = .idle ∧ 1 ≤ (1#3).toNat ∧ (5#3).toNat ≤ 5 ∧
    sending.refused = none ∧ sending.phase ≠ .idle ∧
    (0#3).toNat = 0 ∧ (6#3).toNat = 6 ∧ (7#3).toNat = 7 ∧
    (∃ t, exec (.config 2 5) State.reset = .next t) := by
  exact ⟨rfl, rfl, by decide, by decide, by decide +kernel, by decide +kernel, by decide, by decide, by decide, _, rfl⟩

theorem witness_SendLoadsThePayloadAndStartsTheFirstFrame :
    configured.refused = none ∧ configured.phase = .idle ∧ configured.cfgValid = true ∧
    (configured.cfgChan, 2#3) ∈ ([(1, 1), (2, 2), (3, 3), (4, 5), (5, 6)] : List (BitVec 3 × BitVec 3)) ∧
    (BitVec.ofInt 11 (-999)).toInt.natAbs < 1000 ∧ (999#11).toInt.natAbs < 1000 ∧ (99#7).toNat < 100 := by decide +kernel

theorem witness_SendIsTurnedAwayInRuleOrder_errors :
    sending.refused = none ∧ sending.phase ≠ .idle ∧ State.reset.phase = .idle ∧ State.reset.cfgValid = false := by
  decide +kernel

theorem witness_SendIsTurnedAwayInRuleOrder_refusals :
    configured.refused = none ∧ configured.phase = .idle ∧ configured.cfgValid = true ∧
    1000 ≤ (1000#11).toInt.natAbs ∧ 1000 ≤ (0x400#11).toInt.natAbs ∧ (999#11).toInt.natAbs < 1000 ∧
    100 ≤ (100#7).toNat ∧ (99#7).toNat < 100 ∧
    { configured with cfgChan := 0 }.cfgChan.toNat = 0 ∧ 6 ≤ { configured with cfgChan := 6 }.cfgChan.toNat := by
  decide +kernel

theorem witness_ClrerrClearsTheError : erring.refused = none ∧ configured.cmdErr = false ∧ configured.errCause = 0#3 := by
  decide +kernel

theorem witness_NoCommandStopsATransmission :
    lastGap.refused = none ∧ lastGap.phase ≠ .idle ∧ sending.phase ≠ .idle := by decide +kernel

theorem nop_word : decode (tickCommandEdge 0).cmdWord = .ok .nop := by decide

theorem witness_OnlyConfigWritesTheConfiguration :
    erring.inputs = tickCommandEdge 0 :: [] ∧ (tickCommandEdge 0).rst = false ∧
    step erring = .next { erring with rem := 499, inputs := [] } ∧ erring.cfgValid = true ∧
    (∀ chan rid, decode (tickCommandEdge 0).cmdWord ≠ .ok (.config chan rid)) := by
  refine ⟨rfl, rfl, rfl, rfl, fun _ _ => ?_⟩
  rw [nop_word]; simp

theorem witness_OnlySendWritesThePayload :
    (∀ temp hum batt, decode (tickCommandEdge 0).cmdWord ≠ .ok (.send temp hum batt)) ∧
    step erring = .next { erring with rem := 499, inputs := [] } := by
  refine ⟨fun _ _ _ => ?_, rfl⟩
  rw [nop_word]; simp

theorem witness_ObscureReturnsThePrefixParities_and_MixReturnsItsByte :
    State.reset.refused = none ∧ sending.refused = none := by decide +kernel

/-! The frame builder and the repeater. -/

theorem witness_FrameBuildObscuresAndAppendsTheChecksums :
    State.reset.refused = none ∧ State.reset.frm[2].toNat / 2 % 32 ≤ 7 ∧
    (State.reset.setFrm scenarioBuffer).frm[2].toNat / 2 % 32 = 7 ∧
    7 < ((State.reset.setFrm scenarioBuffer).frm.set 2 0x10)[2].toNat / 2 % 32 := by decide +kernel

theorem witness_FramesPassTheReceiversChecks : ∃ f, buildFrame ctx scenarioBuffer = .next f := ⟨_, rfl⟩

theorem witness_RepeatStartBuildsTheFrameOfItsMarker :
    sending.refused = none ∧ sending.raw[2].toNat / 2 % 32 = 7 ∧
    ((0, 0x5E) : BitVec 2 × Byte) ∈ ([(0, 0x5E), (1, 0x9E), (2, 0xDE)] : List (BitVec 2 × Byte)) ∧
    ((2, 0xDE) : BitVec 2 × Byte) ∈ ([(0, 0x5E), (1, 0x9E), (2, 0xDE)] : List (BitVec 2 × Byte)) := by decide +kernel

theorem witness_RepeatStartRunsFrameBuildOnTheMarkedCopy :
    State.reset.refused = none ∧
    ((1, 0x9E) : BitVec 2 × Byte) ∈ ([(0, 0x5E), (1, 0x9E), (2, 0xDE)] : List (BitVec 2 × Byte)) := by decide

theorem witness_FramesDifferOnlyInTheMarker : countField sending.raw[2] = 7 ∧
    (∃ t, exec (.repeatStart 0) sending = .next t) ∧ ∃ u, exec (.repeatStart 2) sending = .next u :=
  ⟨by decide +kernel, ⟨_, rfl⟩, ⟨_, rfl⟩⟩

/-! The line encoder and the sequencer. -/

theorem witness_ByteSerializeDrivesEachBitAndItsComplement :
    sending.refused = none ∧ sending.bidx.toNat < 10 ∧ readFrm sending 0 = some 0x75 ∧
    lastSlot.refused = none ∧ lastSlot.bidx.toNat = 9 ∧ readFrm lastSlot 9 = some 0x0D := by decide +kernel

theorem witness_TicksRefineByteSerialize : State.reset.refused = none ∧ State.reset.bidx.toNat < 10 ∧
    enterSlot ctx 0 State.reset = .next { State.reset with phase := .slot, rem := 500 } ∧
    { State.reset with bidx := 9 }.bidx.toNat < 10 := ⟨rfl, by decide, rfl, by decide⟩

theorem witness_LastHalfSlotOfAFrameIsHigh :
    Inv lastSlot ∧ lastSlot.phase = .slot ∧ lastSlot.bidx = 9#4 ∧ lastSlot.slot = 17#5 :=
  ⟨witness_inv_lastSlot, rfl, rfl, rfl⟩

theorem witness_IndicesOutsideTheArraysFault :
    { slotEnd 1 with bidx := 10 }.refused = none ∧ 10 ≤ { slotEnd 1 with bidx := 10 }.bidx.toNat ∧
    { slotEnd 1 with bidx := 10 }.phase = .slot ∧ { slotEnd 1 with bidx := 10 }.rem = 1#16 ∧
    { slotEnd 1 with bidx := 10 }.slot = 1#5 := by decide +kernel

theorem witness_TicksWhileIdleChangeNothing : configured.refused = none ∧ configured.phase = .idle := by decide +kernel

theorem witness_TicksHoldTheSegment :
    { sending with rem := 2 }.refused = none ∧ { sending with rem := 2 }.phase ≠ .idle ∧
    1 < { sending with rem := 2 }.rem.toNat ∧ 1 < { lastGap with rem := 30000 }.rem.toNat := by decide +kernel

theorem witness_TickEndingASlotEntersTheNext :
    (slotEnd 0).refused = none ∧ (slotEnd 0).phase = .slot ∧ (slotEnd 0).rem = 1#16 ∧ (slotEnd 0).slot = 0#5 ∧
    (slotEnd 1).slot = 1#5 ∧ readFrm (slotEnd 1) (slotEnd 1).bidx.toNat = some 0x75 ∧
    2 ≤ (slotEnd 2).slot.toNat ∧ (slotEnd 16).slot.toNat < 17 ∧ (slotEnd 16).slot.toNat % 2 = 0 ∧
    (slotEnd 3).slot.toNat % 2 = 1 ∧ (slotEnd 15).slot.toNat % 2 = 1 := by decide +kernel

theorem witness_TickEndingAByteEntersTheNextOrTheGap :
    lastSlot.refused = none ∧ lastSlot.phase = .slot ∧ lastSlot.rem = 1#16 ∧ lastSlot.slot = 17#5 ∧
    lastSlot.flen.toNat ≤ lastSlot.bidx.toNat + 1 ∧
    { lastSlot with bidx := 8 }.bidx.toNat + 1 < { lastSlot with bidx := 8 }.flen.toNat := by decide +kernel

theorem witness_TickEndingAGapStartsTheNextFrameOrEnds :
    lastGap.refused = none ∧ lastGap.phase = .gap ∧ lastGap.rem = 1#16 ∧ lastGap.rep = 2#2 ∧
    { lastGap with rep := 0 }.rep.toNat < 2 ∧ { lastGap with rep := 1 }.rep.toNat < 2 := by decide +kernel

theorem witness_SegmentCountsAndDurations : countField sending.raw[2] = 7 := by decide +kernel

theorem witness_EveryTickTakesOneOffTheTicksLeft :
    Inv lastSlot ∧ lastSlot.phase ≠ .idle ∧ Inv lastGap ∧ lastGap.phase ≠ .idle ∧ Inv configured ∧
    ticksLeft sending = 360000 ∧ ticksLeft lastGap = 1 ∧ ticksLeft configured = 0 :=
  ⟨witness_inv_lastSlot, by decide +kernel, witness_inv_lastGap, by decide +kernel, witness_inv_configured,
    by decide +kernel, by decide +kernel, by decide +kernel⟩

theorem witness_SendDrivesItsLineTrace :
    configured.refused = none ∧ configured.phase = .idle ∧ configured.cfgValid = true ∧
    chanLegal configured.cfgChan = true ∧ tempLegal 235 = true ∧ humLegal 34 = true ∧
    (∃ l, lineTrace ctx (stateOf (exec (.send 235 34 true) configured)).raw = .next l ∧
      ∃ g rest, l = [] ++ g :: rest ∧ 499 < g.ticks) := by
  exact ⟨by decide +kernel, by decide +kernel, by decide +kernel, by decide +kernel, by decide +kernel, by decide +kernel,
    _, rfl, _, _, rfl, by decide +kernel⟩

/-! The payload encoder. -/

theorem witness_ChannelRemapReturnsTheWireChannel :
    State.reset.refused = none ∧ 1 ≤ (1#3).toNat ∧ (5#3).toNat ≤ 5 ∧ (0#3).toNat = 0 ∧ 6 ≤ (6#3).toNat := by decide

theorem witness_TempEncodeWritesDigitsAndSign :
    sending.refused = none ∧ (BitVec.ofInt 11 (-999)).toInt.natAbs < 1000 ∧ (999#11).toInt.natAbs < 1000 ∧
    1000 ≤ (1000#11).toInt.natAbs ∧ 1000 ≤ (BitVec.ofInt 11 (-1000)).toInt.natAbs := by decide +kernel

theorem witness_HumEncodeWritesItsDigits :
    sending.refused = none ∧ (0#7).toNat < 100 ∧ (99#7).toNat < 100 ∧ 100 ≤ (100#7).toNat := by decide +kernel

theorem witness_PayloadEncodeWritesTheEightBytes :
    configured.refused = none ∧ 1 ≤ configured.cfgChan.toNat ∧ configured.cfgChan.toNat ≤ 5 ∧
    (999#11).toInt.natAbs < 1000 ∧ (99#7).toNat < 100 ∧ 1000 ≤ (1000#11).toInt.natAbs ∧ 100 ≤ (100#7).toNat ∧
    State.reset.refused = none ∧ State.reset.cfgChan.toNat = 0 ∧
    6 ≤ { configured with cfgChan := 6 }.cfgChan.toNat := by decide +kernel

theorem witness_ReceiverRecoversTheReading :
    tempLegal (BitVec.ofInt 11 (-999)) = true ∧ tempLegal 999 = true ∧ humLegal 99 = true := by decide

/-! The host program. -/

theorem witness_HostScriptLinesActAsTheirEvents :
    lastGap.refused = none ∧ assemble (.send (-235) 34 true) = some 0x20051715#32 ∧
    (runLine .waitIdle lastGap).map lineState = some { lastGap with phase := .idle, rem := 0 } ∧
    (runLine .waitIdle configured).map lineState = some configured := by decide +kernel

theorem witness_WaitIdleTakesTheTicksLeft : Inv lastGap ∧ Inv lastSlot ∧ Inv configured :=
  ⟨witness_inv_lastGap, witness_inv_lastSlot, witness_inv_configured⟩

end Sys2Proof.Tests
end

section
/-! PROOFS. Refused states, quiet edges and the output ports (R20 to R23, R31). -/

namespace Sys2Proof.Machine

/-- A refused state refuses every operation, whatever it is: each meaning is guarded (R183). -/
theorem exec_of_refused {s : State} {r : Refusal} (i : Instr) (h : s.refused = some r) : exec i s = .refused r := by
  cases i <;> exact whenLive_of_refused h

/-- Settles O15: the step and every operation stand behind the same guard. -/
theorem refusedStatesHaveNoMeaning : Obligations.RefusedStatesHaveNoMeaning := by
  intro s r h
  exact ⟨step_of_refused h, fun i => exec_of_refused i h⟩

/-- An edge that carries no event changes nothing (R21). -/
theorem onEdge_quiet (w : Word) (s : State) : onEdge ⟨false, false, false, w⟩ s = .next s := rfl

/-- Settles O9: the edge is consumed, and nothing acts. -/
theorem quietEdgesChangeNothing : Obligations.QuietEdgesChangeNothing := by
  intro s w es h
  constructor
  · rw [step_of_cons (s := { s with inputs := ⟨false, false, false, w⟩ :: es }) h rfl, onEdge_quiet]
    rfl
  · exact step_of_nil h rfl

/-- Two fields side by side, as a number. -/
theorem toNat_append_eq {m n : Nat} (x : BitVec m) (y : BitVec n) : (x ++ y).toNat = x.toNat * 2 ^ n + y.toNat := by
  rw [BitVec.toNat_append, ← Nat.shiftLeft_add_eq_or_of_lt y.isLt, Nat.shiftLeft_eq]

/-- The `cfg` port as a number (R20, R22). -/
theorem cfgPort_toNat (s : State) : (cfgPort s).toNat = s.cfgChan.toNat * 32 + s.cfgRid.toNat :=
  toNat_append_eq s.cfgChan s.cfgRid

/-- The status port as a number (R23): the cause from bit 3 on, below it CFG_VALID, CMD_ERR and BUSY; nothing above. -/
theorem statusPort_toNat (s : State) :
    (statusPort s).toNat = s.errCause.toNat * 8 + s.cfgValid.toNat * 4 + s.cmdErr.toNat * 2 + (busy s).toNat := by
  simp only [statusPort, toNat_append_eq, BitVec.toNat_ofBool, BitVec.toNat_ofNat]
  omega

/-- The three flags of the status port (R23). -/
theorem statusPort_flags (s : State) :
    (statusPort s).getLsbD 0 = busy s ∧ (statusPort s).getLsbD 1 = s.cmdErr ∧ (statusPort s).getLsbD 2 = s.cfgValid := by
  simp only [statusPort, BitVec.getLsbD_append]
  simp

/-- Settles O16: the flags bit by bit, the cause from the port's number. -/
theorem statusAndCfgPortBits : Obligations.StatusAndCfgPortBits := by
  intro s
  obtain ⟨hbusy, herr, hcfg⟩ := statusPort_flags s
  refine ⟨by rw [hbusy, busy_eq_true], herr, hcfg, ?_, cfgPort_toNat s, rfl⟩
  have := Bool.toNat_le s.cfgValid
  have := Bool.toNat_le s.cmdErr
  have := Bool.toNat_le (busy s)
  rw [statusPort_toNat]
  omega

end Sys2Proof.Machine
end

section
/-! PROOFS. What a command word, an edge and a step can do, and who writes the configuration and the payload (R22, R27,
R160 to R164). -/

namespace Sys2Proof.Machine

/-- What an accepted command word can do to `s`, case by case (R160 to R164): nothing, a command error, the clearing of the
error, a new identity, or the start of a transmission. -/
inductive CommandEffect (w : Word) (s : State) : State → Prop where
  | nothing (hd : decode w = .ok .nop) : CommandEffect w s s
  | error (cause : ErrorCause) : CommandEffect w s (raiseCmdError cause s)
  | clear (hd : decode w = .ok .clrerr) : CommandEffect w s (clearCmdError s)
  | configure (chan : BitVec 3) (rid : BitVec 5) (hd : decode w = .ok (.config chan rid)) (hidle : s.phase = .idle)
      (hchan : chanLegal chan = true) : CommandEffect w s (s.setCfg chan rid)
  | start (temp : BitVec 11) (hum : BitVec 7) (batt : Bool) (u t : State) (hd : decode w = .ok (.send temp hum batt))
      (hidle : s.phase = .idle) (hcfg : s.cfgValid = true) (hpay : payloadEncode ctx temp hum batt s = .next u)
      (hrep : repeatStart ctx 0#2 u = .next t) : CommandEffect w s t

/-- CONFIG, if it answers: the busy error, or the identity (R162). -/
theorem execConfig_eq_next {chan : BitVec 3} {rid : BitVec 5} {s t : State} (h : execConfig chan rid s = .next t) :
    t = raiseCmdError .busy s ∨ (s.phase = .idle ∧ chanLegal chan = true ∧ t = s.setCfg chan rid) := by
  have h := (whenLive_eq_next.mp h).2
  split_ifs at h with hbusy hchan
  · cases h; exact .inl rfl
  · cases h; exact .inr ⟨by simpa [busy] using hbusy, by simpa using hchan, rfl⟩

/-- SEND, if it answers: one of its two command errors, or the payload and repetition 0 (R163). -/
theorem execSend_eq_next {temp : BitVec 11} {hum : BitVec 7} {batt : Bool} {s t : State}
    (h : execSend temp hum batt s = .next t) :
    t = raiseCmdError .busy s ∨ t = raiseCmdError .notConfigured s ∨
      (s.phase = .idle ∧ s.cfgValid = true ∧
        ∃ u, payloadEncode ctx temp hum batt s = .next u ∧ repeatStart ctx 0#2 u = .next t) := by
  have h := (whenLive_eq_next.mp h).2
  split_ifs at h with hbusy hcfg
  · cases h; exact .inl rfl
  · cases h; exact .inr (.inl rfl)
  · exact .inr (.inr ⟨by simpa [busy] using hbusy, by simpa using hcfg, andThen_eq_next.mp h⟩)

/-- If a command word is answered with a next state, that state is one of its effects (R160). -/
theorem onCommand_effect {w : Word} {s t : State} (h : onCommand w s = .next t) : CommandEffect w s t := by
  unfold onCommand at h
  split at h
  · cases h; exact .error .reservedOp
  · cases h; exact .error .reservedBits
  · rename_i i hd
    have hcmd := isCommand_of_decode hd
    cases i with
    | nop => cases (whenLive_eq_next.mp h).2; exact .nothing hd
    | clrerr => cases (whenLive_eq_next.mp h).2; exact .clear hd
    | config chan rid =>
      rcases execConfig_eq_next h with rfl | ⟨hidle, hchan, rfl⟩
      · exact .error .busy
      · exact .configure chan rid hd hidle hchan
    | send temp hum batt =>
      rcases execSend_eq_next h with rfl | rfl | ⟨hidle, hcfg, u, hpay, hrep⟩
      · exact .error .busy
      · exact .error .notConfigured
      · exact .start temp hum batt u t hd hidle hcfg hpay hrep
    | _ => cases hcmd

theorem KeepsHostSide.refl (s : State) : KeepsHostSide s s := by
  constructor <;> rfl

/-- The event `Tick`, if it answers, is SEQ_TICK of a live state. -/
theorem onTick_eq_next {s t : State} : onTick s = .next t ↔ s.refused = none ∧ seqTick ctx s = .next t :=
  whenLive_eq_next

/-- An edge without reset, if it answers: first its tick if it carries one, then its command if it presents one (R187). -/
theorem onEdge_eq_next {e : Edge} {s t : State} (hr : e.rst = false) (h : onEdge e s = .next t) :
    ∃ u, (u = s ∨ seqTick ctx s = .next u) ∧ (t = u ∨ (e.cmdValid = true ∧ CommandEffect e.cmdWord u t)) := by
  simp only [onEdge, hr, Bool.false_eq_true, if_false] at h
  obtain ⟨u, htick, hcmd⟩ := andThen_eq_next.mp h
  refine ⟨u, ?_, ?_⟩
  · split at htick
    · exact .inr (onTick_eq_next.mp htick).2
    · cases htick; exact .inl rfl
  · split at hcmd
    · exact .inr ⟨‹_›, onCommand_effect hcmd⟩
    · cases hcmd; exact .inl rfl

/-- The step of the machine, if it answers: the state was live, and it stayed or the coming edge acted. -/
theorem step_eq_next {s t : State} (h : step s = .next t) :
    s.refused = none ∧
      ((s.inputs = [] ∧ t = s) ∨ ∃ e es, s.inputs = e :: es ∧ onEdge e (s.setInputs es) = .next t) := by
  have hl := (whenLive_eq_next.mp h).1
  refine ⟨hl, ?_⟩
  cases hi : s.inputs with
  | nil =>
    rw [step_of_nil hl hi] at h
    cases h; exact .inl ⟨rfl, rfl⟩
  | cons e es => exact .inr ⟨e, es, rfl, step_of_cons hl hi ▸ h⟩

/-- A step over an edge without reset: the edge's command, if any, acts on a state whose host side is that of `s`. -/
theorem step_command_of_noReset {s t : State} {e : Edge} {es : List Edge} (hi : s.inputs = e :: es) (hr : e.rst = false)
    (h : step s = .next t) :
    ∃ u, KeepsHostSide (s.setInputs es) u ∧ (t = u ∨ (e.cmdValid = true ∧ CommandEffect e.cmdWord u t)) := by
  rw [step_of_cons (step_eq_next h).1 hi] at h
  obtain ⟨u, rfl | htick, hcmd⟩ := onEdge_eq_next hr h
  · exact ⟨_, .refl _, hcmd⟩
  · exact ⟨u, seqTick_keepsHostSide htick, hcmd⟩

/-- SEND writes no cell of the configuration. -/
theorem start_keeps_cfg {temp : BitVec 11} {hum : BitVec 7} {batt : Bool} {s u t : State}
    (hpay : payloadEncode ctx temp hum batt s = .next u) (hrep : repeatStart ctx 0#2 u = .next t) :
    t.cfgChan = s.cfgChan ∧ t.cfgRid = s.cfgRid ∧ t.cfgValid = s.cfgValid := by
  have hk := repeatStart_keepsHostSide hrep
  obtain ⟨-, -, wire, -, rfl⟩ := payloadEncode_eq_next hpay
  exact ⟨hk.cfgChan, hk.cfgRid, hk.cfgValid⟩

/-- A command keeps the configuration, or it is a CONFIG, which sets CFG_VALID (R22). -/
theorem CommandEffect.cfg {w : Word} {s t : State} (h : CommandEffect w s t) :
    (t.cfgChan = s.cfgChan ∧ t.cfgRid = s.cfgRid ∧ t.cfgValid = s.cfgValid) ∨
      (t.cfgValid = true ∧ ∃ chan rid, decode w = .ok (.config chan rid)) := by
  cases h with
  | nothing hd => exact .inl ⟨rfl, rfl, rfl⟩
  | error cause => exact .inl ⟨rfl, rfl, rfl⟩
  | clear hd => exact .inl ⟨rfl, rfl, rfl⟩
  | configure chan rid hd hidle hchan => exact .inr ⟨rfl, chan, rid, hd⟩
  | start temp hum batt u t hd hidle hcfg hpay hrep => exact .inl (start_keeps_cfg hpay hrep)

/-- Settles O26: the tick keeps the host's side, and a command keeps the configuration or is a CONFIG. -/
theorem onlyConfigWritesTheConfiguration : Obligations.OnlyConfigWritesTheConfiguration := by
  intro s t e es hi hr h
  obtain ⟨u, hk, rfl | ⟨hv, heffect⟩⟩ := step_command_of_noReset hi hr h
  · exact ⟨fun hs => hk.cfgValid.trans hs, fun _ => ⟨hk.cfgChan, hk.cfgRid, hk.cfgValid⟩⟩
  · rcases heffect.cfg with ⟨hchan, hrid, hvalid⟩ | ⟨hvalid, chan, rid, hd⟩
    · have hvalid := hvalid.trans hk.cfgValid
      exact ⟨fun hs => hvalid.trans hs, fun _ => ⟨hchan.trans hk.cfgChan, hrid.trans hk.cfgRid, hvalid⟩⟩
    · exact ⟨fun _ => hvalid, fun hno => absurd hd (hno hv chan rid)⟩

/-- A command keeps RAW, or it is a SEND (R27). -/
theorem CommandEffect.raw {w : Word} {s t : State} (h : CommandEffect w s t) :
    t.raw = s.raw ∨ ∃ temp hum batt, decode w = .ok (.send temp hum batt) := by
  cases h with
  | nothing hd => exact .inl rfl
  | error cause => exact .inl rfl
  | clear hd => exact .inl rfl
  | configure chan rid hd hidle hchan => exact .inl rfl
  | start temp hum batt u t hd hidle hcfg hpay hrep => exact .inr ⟨temp, hum, batt, hd⟩

/-- Settles O27: the tick keeps the host's side, RAW included, and a command keeps RAW or is a SEND. -/
theorem onlySendWritesThePayload : Obligations.OnlySendWritesThePayload := by
  intro s t e es hi hr hno h
  obtain ⟨u, hk, rfl | ⟨hv, heffect⟩⟩ := step_command_of_noReset hi hr h
  · exact hk.raw
  · rcases heffect.raw with hraw | ⟨temp, hum, batt, hd⟩
    · exact hraw.trans hk.raw
    · exact absurd hd (hno hv temp hum batt)

end Sys2Proof.Machine
end

section
/-! PROOFS. The sequencer does not depend on the cells it does not read, so a run over tick edges is that many ticks
(R165). -/

namespace Sys2Proof.Machine

/-- `s` with the error flag, the cause and the model's own fields of `h`: cells that no rule of the sequencer reads. An update
of these cells alone, such as `raiseCmdError` or `State.setInputs`, is of this form. -/
def State.withUnread (s h : State) : State :=
  { s with cmdErr := h.cmdErr, errCause := h.errCause, opResult := h.opResult, inputs := h.inputs, draws := h.draws }

section WithUnread

variable (s h : State)

@[simp] theorem State.withUnread_phase : (s.withUnread h).phase = s.phase := rfl
@[simp] theorem State.withUnread_rep : (s.withUnread h).rep = s.rep := rfl
@[simp] theorem State.withUnread_bidx : (s.withUnread h).bidx = s.bidx := rfl
@[simp] theorem State.withUnread_slot : (s.withUnread h).slot = s.slot := rfl
@[simp] theorem State.withUnread_rem : (s.withUnread h).rem = s.rem := rfl
@[simp] theorem State.withUnread_flen : (s.withUnread h).flen = s.flen := rfl
@[simp] theorem State.withUnread_setRem (n : BitVec 16) : (s.withUnread h).setRem n = (s.setRem n).withUnread h := rfl
@[simp] theorem State.withUnread_setBidx (i : BitVec 4) : (s.withUnread h).setBidx i = (s.setBidx i).withUnread h := rfl
@[simp] theorem State.withUnread_startGap (n : BitVec 16) :
    (s.withUnread h).startGap n = (s.startGap n).withUnread h := rfl
@[simp] theorem State.withUnread_setIdle : (s.withUnread h).setIdle = s.setIdle.withUnread h := rfl

@[simp] theorem exitSlot_withUnread : exitSlot (s.withUnread h) = (exitSlot s).withUnread h := by
  by_cases hk : 2 ≤ s.slot.toNat
  · rw [exitSlot, exitSlot, if_pos hk, if_pos (show 2 ≤ (s.withUnread h).slot.toNat from hk)]; rfl
  · rw [exitSlot, exitSlot, if_neg hk, if_neg (show ¬2 ≤ (s.withUnread h).slot.toNat from hk)]

/-- ENTER_SLOT carries the unread cells along (R166). -/
theorem enterSlot_withUnread (c : Config) (k : BitVec 5) :
    enterSlot c k (s.withUnread h) = andThen (enterSlot c k s) fun t => .next (t.withUnread h) := by
  by_cases hk : k = 2#5
  · subst hk
    by_cases hb : s.bidx.toNat < 10
    · rw [enterSlot_of_lt hb, enterSlot_of_lt (s := s.withUnread h) hb]; rfl
    · have hb : 10 ≤ s.bidx.toNat := by omega
      rw [enterSlot_two_of_ge hb, enterSlot_two_of_ge (s := s.withUnread h) hb]; rfl
  · rw [enterSlot_of_ne_two hk, enterSlot_of_ne_two hk]; rfl

/-- FRAME_BUILD carries the unread cells along (R100). -/
theorem frameBuild_withUnread (c : Config) :
    frameBuild c (s.withUnread h) = andThen (frameBuild c s) fun t => .next (t.withUnread h) := by
  simp only [frameBuild, andThen_assoc]; rfl

/-- REPEAT_START carries the unread cells along (R111). -/
theorem repeatStart_withUnread (c : Config) (r : BitVec 2) :
    repeatStart c r (s.withUnread h) = andThen (repeatStart c r s) fun t => .next (t.withUnread h) := by
  unfold repeatStart
  cases markerOf c r with
  | none => rfl
  | some m =>
    have hcopy : (s.withUnread h).setFrm (loadFrame (s.withUnread h).raw m (s.withUnread h).frm) =
        (s.setFrm (loadFrame s.raw m s.frm)).withUnread h := rfl
    have henter (u : State) : enterSlot c 0#5 ((u.withUnread h).startRep r) = _ :=
      enterSlot_withUnread (u.startRep r) h c 0#5
    simp only [hcopy, frameBuild_withUnread, andThen_assoc, andThen_next, henter]

/-- What ends a slot carries the unread cells along. -/
theorem endOfSlot_withUnread (c : Config) :
    endOfSlot c (s.withUnread h) = andThen (endOfSlot c s) fun t => .next (t.withUnread h) := by
  by_cases hslot : (exitSlot s).slot.toNat < 17
  · simp [endOfSlot, hslot, enterSlot_withUnread]
  · by_cases hbyte : (exitSlot s).bidx.toNat + 1 < (exitSlot s).flen.toNat
    · simp [endOfSlot, endOfByte, hslot, hbyte, enterSlot_withUnread]
    · simp [endOfSlot, endOfByte, hslot, hbyte]

/-- What ends a gap carries the unread cells along. -/
theorem endOfGap_withUnread (c : Config) :
    endOfGap c (s.withUnread h) = andThen (endOfGap c s) fun t => .next (t.withUnread h) := by
  by_cases hrep : s.rep.toNat + 1 < c.repeats
  · simp [endOfGap, hrep, repeatStart_withUnread]
  · simp [endOfGap, hrep]

/-- SEQ_TICK carries the unread cells along: no rule of the sequencer depends on them (R33, R180). -/
theorem seqTick_withUnread (c : Config) :
    seqTick c (s.withUnread h) = andThen (seqTick c s) fun t => .next (t.withUnread h) := by
  cases hp : s.phase with
  | idle => simp [seqTick, hp]
  | slot => by_cases hr : s.rem - 1#16 = 0#16 <;> simp [seqTick, countDown, hp, hr, endOfSlot_withUnread]
  | gap => by_cases hr : s.rem - 1#16 = 0#16 <;> simp [seqTick, countDown, hp, hr, endOfGap_withUnread]

end WithUnread

/-- A state whose host side is that of `s` takes the unread cells of `s.setInputs l` as it takes the inputs `l`. -/
theorem KeepsHostSide.withUnread_setInputs {s t : State} (h : KeepsHostSide s t) (l : List Edge) :
    t.withUnread (s.setInputs l) = t.setInputs l := by
  simp only [State.withUnread, State.setInputs, h.cmdErr, h.errCause, h.opResult, h.draws]

/-- A tick does the same whatever edges are scheduled after it. -/
theorem onTick_setInputs (s : State) (l : List Edge) :
    onTick (s.setInputs l) = andThen (onTick s) fun t => .next (t.setInputs l) := by
  cases hl : s.refused with
  | some r =>
    have hs : onTick s = .refused r := whenLive_of_refused hl
    have hsl : onTick (s.setInputs l) = .refused r := whenLive_of_refused hl
    rw [hs, hsl, andThen_refused]
  | none =>
    have hs : onTick s = seqTick ctx s := whenLive_of_live hl
    have hsl : onTick (s.setInputs l) = seqTick ctx (s.withUnread (s.setInputs l)) := whenLive_of_live hl
    rw [hs, hsl, seqTick_withUnread]
    cases htick : seqTick ctx s with
    | next t => simp [(seqTick_keepsHostSide htick).withUnread_setInputs]
    | fault r => rfl
    | refused r => rfl

/-- A step over an edge that carries a tick alone is the tick, in a refused state too. -/
theorem step_tickEdge (s : State) (es : List Edge) : step (s.setInputs (tickEdge :: es)) = onTick (s.setInputs es) := by
  cases hl : s.refused with
  | some r =>
    have htick : onTick (s.setInputs es) = .refused r := whenLive_of_refused hl
    rw [htick]; exact step_of_refused hl
  | none => exact (step_of_cons (s := s.setInputs (tickEdge :: es)) hl rfl).trans (onEdge_tickEdge _)

/-- A run of one step and more is the step, then the rest. -/
theorem core_run_succ (n : Nat) (s : State) : core.run (n + 1) s = andThen (step s) (core.run n) := by
  cases h : step s with
  | next t => simp [Host.Core.run, core, h]
  | fault r => simp [Host.Core.run, core, h]
  | refused r => simp [Host.Core.run, core, h]

/-- Running over `n` edges that carry a tick alone is `n` ticks. -/
theorem core_run_tickEdges (n : Nat) (s : State) (es : List Edge) :
    core.run n (s.setInputs (List.replicate n tickEdge ++ es)) = ticks n (s.setInputs es) := by
  induction n generalizing s with
  | zero => rfl
  | succ n ih =>
    rw [List.replicate_succ, List.cons_append, core_run_succ, step_tickEdge, ticks, onTick_setInputs, onTick_setInputs s es]
    cases onTick s with
    | next t => exact ih t
    | fault r => rfl
    | refused r => rfl

/-- Settles O47, by induction on the number of ticks. -/
theorem runsOfTickEdgesAreTicks : Obligations.RunsOfTickEdgesAreTicks :=
  core_run_tickEdges

end Sys2Proof.Machine
end

section
/-! PROOFS. The bytes of a SEND: its frame, its digits, and the levels of a byte (R100, R121, R140 to R148). -/

namespace Sys2Proof.Machine

/-- The first checksum of a frame of seven counted bytes (R102): the transformed bytes, byte 3 left out. -/
def payloadCs1 (raw : Vector Byte 8) : Byte :=
  obscure raw[1] ^^^ obscure raw[2] ^^^ obscure raw[4] ^^^ obscure raw[5] ^^^ obscure raw[6] ^^^ obscure raw[7]

/-- The second checksum of a frame of seven counted bytes (R102). -/
def payloadCs2 (raw : Vector Byte 8) : Byte :=
  [raw[1], raw[2], raw[4], raw[5], raw[6], raw[7]].foldl (fun acc b => mix ctx (acc ^^^ obscure b)) 0#8

/-- The frame that FRAME_BUILD makes of a payload of seven counted bytes with a marker in byte 3 (R100). -/
def framedPayload (raw : Vector Byte 8) (marker : Byte) : Framed where
  build := {
    frm := #v[raw[0], obscure raw[1], obscure raw[2], marker, obscure raw[4], obscure raw[5], obscure raw[6],
      obscure raw[7], payloadCs1 raw, mix ctx (payloadCs1 raw ^^^ payloadCs2 raw)]
    cs1 := payloadCs1 raw
    cs2 := payloadCs2 raw }
  flen := 10#6

theorem transformIndices_seven : transformIndices ctx 7 = [1, 2, 4, 5, 6, 7] := by decide

/-- The loop of FRAME_BUILD over a marked copy of RAW with seven counted bytes. -/
theorem transformLoop_loadFrame (raw : Vector Byte 8) (m : Byte) (frm : Vector Byte 10) :
    transformLoop ctx 7 (loadFrame raw m frm) =
      ⟨#v[raw[0], obscure raw[1], obscure raw[2], m, obscure raw[4], obscure raw[5], obscure raw[6], obscure raw[7],
        frm[8], frm[9]], payloadCs1 raw, payloadCs2 raw⟩ := by
  rw [transformLoop, transformIndices_seven]
  simp [transformByte, loadFrame, payloadCs1, payloadCs2]

/-- With seven counted bytes FRAME_BUILD completes on a marked copy of RAW, and what FRM[8] and FRM[9] held before does not
matter: the checksums overwrite them. -/
theorem buildFrame_loadFrame {raw : Vector Byte 8} (m : Byte) (frm : Vector Byte 10) (h : countField raw[2] = 7) :
    buildFrame ctx (loadFrame raw m frm) = .next (framedPayload raw m) := by
  have hcount : countField (loadFrame raw m frm)[2] = 7 := h
  rw [buildFrame, hcount]
  show Host.Outcome.next _ = _
  simp [transformLoop_loadFrame, framedPayload]

/-! ## The digits of a payload -/

theorem toNat_highNibble (b : Byte) : (b >>> 4).toNat = b.toNat / 16 := by
  rw [BitVec.toNat_ushiftRight, Nat.shiftRight_eq_div_pow]

theorem toNat_lowNibble (b : Byte) : (b &&& 0x0F#8).toNat = b.toNat % 16 := by
  rw [BitVec.toNat_and, show (0x0F#8).toNat = 2 ^ 4 - 1 from rfl, Nat.and_two_pow_sub_one_eq_mod]

/-- Two decimal digits as a number (R56). -/
theorem bcdPair_toNat {tens ones : Nat} (ht : tens ≤ 9) (ho : ones ≤ 9) :
    (bcdPair tens ones).toNat = 16 * tens + ones := by
  have h : (16 * tens) ||| ones = 16 * tens + ones := (Nat.two_pow_add_eq_or_of_lt (i := 4) (by omega) tens).symm
  rw [bcdPair, BitVec.toNat_or, BitVec.toNat_shiftLeft, Nat.shiftLeft_eq, BitVec.toNat_ofNat, BitVec.toNat_ofNat,
    Nat.mod_eq_of_lt (a := ones) (by omega), ← h]
  congr 1
  omega

theorem isBcd_bcdPair {tens ones : Nat} (ht : tens ≤ 9) (ho : ones ≤ 9) : isBcd (bcdPair tens ones) = true := by
  have h := bcdPair_toNat ht ho
  simp only [isBcd, Bool.and_eq_true, decide_eq_true_eq, toNat_highNibble, toNat_lowNibble]
  omega

theorem magnitude_lt {t : BitVec 11} (h : tempLegal t = true) : magnitude t < 1000 := of_decide_eq_true h

theorem humValue_lt {h : BitVec 7} (hl : humLegal h = true) : humValue h < 100 := of_decide_eq_true hl

/-- The sign byte as a number (R147): the sign marker above the hundreds digit. -/
theorem tempSign_toNat {c : Config} {t : BitVec 11} (h : magnitude t < 1000) :
    (tempSign c t).toNat = 16 * (signMarker c t).toNat + magnitude t / 100 := by
  have := (signMarker c t).isLt
  rw [tempSign, BitVec.toNat_add, BitVec.toNat_shiftLeft, Nat.shiftLeft_eq, BitVec.toNat_setWidth, BitVec.toNat_ofNat]
  omega

/-- The sign byte of a legal temperature: one of the two markers of this hardware above a decimal digit (R146). -/
theorem tempSign_nibbles {t : BitVec 11} (h : tempLegal t = true) :
    (tempSign ctx t >>> 4 = 0x4#8 ∨ tempSign ctx t >>> 4 = 0xC#8) ∧ (tempSign ctx t &&& 0x0F#8).toNat ≤ 9 := by
  have hm := magnitude_lt h
  have hsign := tempSign_toNat (c := ctx) hm
  have hmarker : (signMarker ctx t).toNat = 4 ∨ (signMarker ctx t).toNat = 12 := by
    unfold signMarker
    split
    · exact .inl rfl
    · exact .inr rfl
  constructor
  · rw [BitVec.toNat_eq, BitVec.toNat_eq, toNat_highNibble, BitVec.toNat_ofNat, BitVec.toNat_ofNat]
    omega
  · rw [toNat_lowNibble]
    omega

/-- PAYLOAD_ENCODE leaves RAW with the layout of R140 for the identity in CFG. -/
theorem payloadEncode_layout {temp : BitVec 11} {hum : BitVec 7} {batt : Bool} {s t : State}
    (h : payloadEncode ctx temp hum batt s = .next t) : PayloadLayout t := by
  obtain ⟨htemp, hhum, wire, hwire, rfl⟩ := payloadEncode_eq_next h
  have hlt := humValue_lt hhum
  exact {
    header := rfl
    identity := ⟨wire, hwire, rfl⟩
    battery := by cases batt with
      | true => exact .inl rfl
      | false => exact .inr rfl
    placeholder := rfl
    magnitude := isBcd_bcdPair (by omega) (by omega)
    sign := tempSign_nibbles htemp
    humidity := isBcd_bcdPair (by omega) (by omega)
    comfort := rfl }

/-- A payload of the layout of R140 holds seven counted bytes (R144). -/
theorem PayloadLayout.count {s : State} (h : PayloadLayout s) : countField s.raw[2] = 7 := by
  rcases h.battery with hb | hb <;> rw [hb] <;> rfl

/-! ## The working value and the levels of a byte -/

/-- The level of a data slot is bit 0 of the working value on entry to it (R121, R123). -/
theorem workingValue_level (b : Byte) {k : Nat} (hk : 2 ≤ k) : (workingValue b k).getLsbD 0 = slotLevel b k := by
  have h0 : k ≠ 0 := by omega
  have h1 : k ≠ 1 := by omega
  unfold workingValue slotLevel
  by_cases heven : k % 2 = 0 <;> simp [h0, h1, heven]

/-- The exit update of a data slot gives the working value of the next slot (R121, R122). -/
theorem nextWorking_workingValue (b : Byte) {k : Nat} (hk : 2 ≤ k) :
    nextWorking (k - 2) (workingValue b k) = workingValue b (k + 1) := by
  unfold nextWorking workingValue
  by_cases heven : k % 2 = 0
  · have hj : ¬(k - 2) % 2 = 1 := by omega
    have hk1 : ¬(k + 1) % 2 = 0 := by omega
    have hshift : (k + 1 - 2) / 2 = (k - 2) / 2 := by omega
    rw [if_neg hj, if_pos heven, if_neg hk1, hshift]
  · have hj : (k - 2) % 2 = 1 := by omega
    have hk1 : (k + 1) % 2 = 0 := by omega
    have hshift : (k + 1 - 2) / 2 = (k - 2) / 2 + 1 := by omega
    rw [if_pos hj, if_neg heven, if_pos hk1, hshift, BitVec.not_not, BitVec.shiftRight_add]

/-- Entering a slot inside the frame, with the working value the slot before it left, gives a sound slot (R166). -/
theorem enterSlot_slotSound {k : BitVec 5} {s t : State} (hframe : s.bidx.toNat < s.flen.toNat) (hb : s.bidx.toNat < 10)
    (hk : k.toNat ≤ 17) (hw : 3 ≤ k.toNat → s.w = workingValue s.frm[s.bidx.toNat] k.toNat)
    (h : enterSlot ctx k s = .next t) : SlotSound t := by
  rw [enterSlot_of_lt hb, holdTicks_halfBit] at h
  cases h
  have hw2 (h2 : 2 ≤ k.toNat) :
      (if k = 2#5 then s.frm[s.bidx.toNat] else s.w) = workingValue s.frm[s.bidx.toNat] k.toNat := by
    split_ifs with hk2
    · rw [hk2]; rfl
    · exact hw (by bv_omega)
  refine ⟨hframe, hk, by simp, s.frm[s.bidx.toNat], readFrm_of_lt hb, ?_, hw2⟩
  by_cases h0 : k = 0#5
  · rw [h0]; rfl
  · by_cases h1 : k = 1#5
    · rw [h1]; rfl
    · have h2 : 2 ≤ k.toNat := by bv_omega
      show (if k = 0#5 then false else if k = 1#5 then true else BitVec.getLsbD _ 0) = _
      rw [if_neg h0, if_neg h1, hw2 h2, workingValue_level _ h2]

end Sys2Proof.Machine
end

section
/-! PROOFS. The invariant: its two halves, and that reset, the tick and every command keep it (R22 to R28). -/

namespace Sys2Proof.Machine

/-- The part of the invariant about the host's side: the mark, the configuration and the error (R22, R23, R181). -/
structure HostSound (s : State) : Prop where
  live : s.refused = none
  cfgLegal : s.cfgValid = true → chanLegal s.cfgChan = true
  noError : s.cmdErr = false → s.errCause = 0#3
  errorCause : s.cmdErr = true → 1 ≤ s.errCause.toNat ∧ s.errCause.toNat ≤ 4

/-- The part of the invariant that holds from a SEND to the end of its last gap, whatever the position on the line: what is
being sent (R27, R28). -/
structure SendSound (s : State) : Prop extends HostSound s where
  configured : s.cfgValid = true
  length : s.flen = 10#6
  payload : PayloadLayout s
  frame : FrameOfPayload s

theorem Inv.host {s : State} (hi : Inv s) : HostSound s := ⟨hi.live, hi.cfgLegal, hi.noError, hi.errorCause⟩

theorem Inv.send {s : State} (hi : Inv s) (hbusy : s.phase ≠ .idle) : SendSound s :=
  ⟨hi.host, hi.busyConfigured hbusy, hi.busyLength hbusy, hi.busyPayload hbusy, hi.busyFrame hbusy⟩

/-- While idle the invariant is the host's side and the low line. -/
theorem HostSound.inv_of_idle {s : State} (h : HostSound s) (hp : s.phase = .idle) (hline : s.line = false) : Inv s where
  live := h.live
  cfgLegal := h.cfgLegal
  noError := h.noError
  errorCause := h.errorCause
  idleLow _ := hline
  busyConfigured hbusy := absurd hp hbusy
  busyLength hbusy := absurd hp hbusy
  busyPayload hbusy := absurd hp hbusy
  busyFrame hbusy := absurd hp hbusy
  slotSound hslot := by simp [hp] at hslot
  gapSound hgap := by simp [hp] at hgap

/-- While busy the invariant is what is being sent and the position on the line. -/
theorem SendSound.inv_of_busy {s : State} (h : SendSound s) (hbusy : s.phase ≠ .idle)
    (hslot : s.phase = .slot → SlotSound s)
    (hgap : s.phase = .gap → s.line = false ∧ 1 ≤ s.rem.toNat ∧ s.rem.toNat ≤ 30000) : Inv s where
  live := h.live
  cfgLegal := h.cfgLegal
  noError := h.noError
  errorCause := h.errorCause
  idleLow hp := absurd hp hbusy
  busyConfigured _ := h.configured
  busyLength _ := h.length
  busyPayload _ := h.payload
  busyFrame _ := h.frame
  slotSound := hslot
  gapSound := hgap

theorem HostSound.of_keeps {s t : State} (h : HostSound s) (hk : KeepsHostSide s t) : HostSound t := by
  obtain ⟨hlive, hcfg, hno, herr⟩ := h
  rw [← hk.refused] at hlive
  rw [← hk.cfgValid, ← hk.cfgChan] at hcfg
  rw [← hk.cmdErr, ← hk.errCause] at hno herr
  exact ⟨hlive, hcfg, hno, herr⟩

/-- The layout of RAW depends on RAW and the configuration alone. -/
theorem PayloadLayout.of_eq {s t : State} (h : PayloadLayout s) (hraw : t.raw = s.raw) (hchan : t.cfgChan = s.cfgChan)
    (hrid : t.cfgRid = s.cfgRid) : PayloadLayout t := by
  obtain ⟨h0, h1, h2, h3, h4, h5, h6, h7⟩ := h
  rw [← hraw] at h0 h1 h2 h3 h4 h5 h6 h7
  rw [← hchan, ← hrid] at h1
  exact ⟨h0, h1, h2, h3, h4, h5, h6, h7⟩

/-- `t` has the host's side of `s` and sends the frame that `s` sends; only the position on the line may differ. -/
structure KeepsFrame (s t : State) : Prop extends KeepsHostSide s t where
  rep : t.rep = s.rep
  frm : t.frm = s.frm
  flen : t.flen = s.flen
  cs1 : t.cs1 = s.cs1
  cs2 : t.cs2 = s.cs2

theorem SendSound.of_keeps {s t : State} (h : SendSound s) (hk : KeepsFrame s t) : SendSound t where
  toHostSound := h.toHostSound.of_keeps hk.toKeepsHostSide
  configured := hk.cfgValid.trans h.configured
  length := hk.flen.trans h.length
  payload := h.payload.of_eq hk.raw hk.cfgChan hk.cfgRid
  frame := by
    have hframe := h.frame
    unfold FrameOfPayload at hframe ⊢
    rwa [hk.raw, hk.rep, hk.frm, hk.flen, hk.cs1, hk.cs2]

theorem enterSlot_keepsFrame {c : Config} {k : BitVec 5} {s t : State} (h : enterSlot c k s = .next t) :
    KeepsFrame s t := by
  rw [(enterSlot_eq_next h).1]
  repeat' constructor

theorem setRem_keepsFrame (s : State) (n : BitVec 16) : KeepsFrame s (s.setRem n) := by repeat' constructor

theorem setBidx_keepsFrame (s : State) (i : BitVec 4) : KeepsFrame s (s.setBidx i) := by repeat' constructor

theorem startGap_keepsFrame (s : State) (n : BitVec 16) : KeepsFrame s (s.startGap n) := by repeat' constructor

theorem exitSlot_keepsFrame (s : State) : KeepsFrame s (exitSlot s) := by
  rw [exitSlot_eq]
  repeat' constructor

/-! ## The sequencer keeps the invariant -/

/-- Entering a slot of a byte of the frame meets the invariant (R166). -/
theorem enterSlot_inv {k : BitVec 5} {s t : State} (hsend : SendSound s) (hb : s.bidx.toNat < 10) (hk : k.toNat ≤ 17)
    (hw : 3 ≤ k.toNat → s.w = workingValue s.frm[s.bidx.toNat] k.toNat) (h : enterSlot ctx k s = .next t) : Inv t := by
  have hphase : t.phase = .slot := (enterSlot_ctx_eq_next h).1
  have hframe : s.bidx.toNat < s.flen.toNat := by rw [hsend.length]; exact hb
  exact (hsend.of_keeps (enterSlot_keepsFrame h)).inv_of_busy (by simp [hphase])
    (fun _ => enterSlot_slotSound hframe hb hk hw h) (by simp [hphase])

/-- REPEAT_START on a payload of the layout of R140 meets the invariant (R111). -/
theorem repeatStart_inv {r : BitVec 2} {s t : State} (hhost : HostSound s) (hcfg : s.cfgValid = true)
    (hpay : PayloadLayout s) (h : repeatStart ctx r s = .next t) : Inv t := by
  have hhost := hhost.of_keeps (repeatStart_keepsHostSide h)
  obtain ⟨m, f, hm, hf, rfl⟩ := repeatStart_eq_next h
  rw [buildFrame_loadFrame m s.frm hpay.count] at hf
  cases hf
  refine SendSound.inv_of_busy ?_ (by simp) (fun _ => ?_) (by simp)
  · exact ⟨hhost, hcfg, rfl, hpay.of_eq rfl rfl rfl, m, hm, buildFrame_loadFrame m _ hpay.count⟩
  · exact {
      byteInFrame := by simp [framedPayload]
      slotInByte := by simp
      holding := by simp
      level := ⟨s.raw[0], rfl, rfl, by simp⟩ }

/-- A tick that does not end the segment keeps the invariant: REM goes down and stays above 0 (R165). -/
theorem countDown_inv {s : State} (hi : Inv s) (hbusy : s.phase ≠ .idle) (hr : s.rem - 1#16 ≠ 0#16) :
    Inv (s.setRem (s.rem - 1#16)) := by
  have hrem (n : Nat) (h : 1 ≤ s.rem.toNat ∧ s.rem.toNat ≤ n) :
      1 ≤ (s.rem - 1#16).toNat ∧ (s.rem - 1#16).toNat ≤ n := by
    bv_omega
  refine ((hi.send hbusy).of_keeps (setRem_keepsFrame s _)).inv_of_busy hbusy (fun hp => ?_) (fun hp => ?_)
  · obtain ⟨hbyte, hslot, hhold, hlevel⟩ := hi.slotSound hp
    exact ⟨hbyte, hslot, hrem 500 hhold, hlevel⟩
  · obtain ⟨hline, hhold⟩ := hi.gapSound hp
    exact ⟨hline, hrem 30000 hhold⟩

/-- In a data slot of a sound state W is the working value of the byte at BIDX. -/
theorem SlotSound.working {s : State} (h : SlotSound s) (hb : s.bidx.toNat < 10) (h2 : 2 ≤ s.slot.toNat) :
    s.w = workingValue s.frm[s.bidx.toNat] s.slot.toNat := by
  obtain ⟨b, hread, -, hw⟩ := h.level
  rw [readFrm_of_lt hb, Option.some.injEq] at hread
  rw [hread]
  exact hw h2

/-- The exit update of a data slot leaves the working value of the next slot (R121). -/
theorem exitSlot_working {s : State} {b : Byte} (h2 : 2 ≤ s.slot.toNat) (hw : s.w = workingValue b s.slot.toNat) :
    (exitSlot s).w = workingValue b (s.slot.toNat + 1) := by
  rw [exitSlot, if_pos h2, State.setW_w, hw, nextWorking_workingValue b h2]

/-- What follows slot 17 of a byte of the frame meets the invariant: slot 0 of the next byte, or the gap (R124). -/
theorem endOfByte_inv {s t : State} (hsend : SendSound s) (h : endOfByte ctx s = .next t) : Inv t := by
  unfold endOfByte at h
  split at h
  · rename_i hmore
    rw [hsend.length] at hmore
    have hb : (s.setBidx (s.bidx + 1#4)).bidx.toNat < 10 := by
      rw [State.setBidx_bidx]
      bv_omega
    exact enterSlot_inv (hsend.of_keeps (setBidx_keepsFrame s _)) hb (by simp) (by simp) h
  · cases h
    exact (hsend.of_keeps (startGap_keepsFrame s _)).inv_of_busy (by simp) (by simp) (fun _ => by simp)

/-- The tick that ends a slot keeps the invariant: the next slot shows what the exit update left, or the byte ends (R165). -/
theorem endOfSlot_inv {s t : State} (hi : Inv s) (hp : s.phase = .slot) (h : endOfSlot ctx (s.setRem 0#16) = .next t) :
    Inv t := by
  have hbusy : s.phase ≠ .idle := by simp [hp]
  have hslot := hi.slotSound hp
  have hb : s.bidx.toNat < 10 := by simpa [hi.busyLength hbusy] using hslot.byteInFrame
  have hsend := ((hi.send hbusy).of_keeps (setRem_keepsFrame s 0#16)).of_keeps (exitSlot_keepsFrame _)
  have hfrm : (exitSlot (s.setRem 0#16)).frm = s.frm := (exitSlot_keepsFrame _).frm
  obtain ⟨hk, hidx, -, -⟩ := exitSlot_position (s.setRem 0#16)
  rw [State.setRem_slot] at hk
  rw [State.setRem_bidx] at hidx
  simp only [endOfSlot, hk] at h
  split at h
  · rename_i hlt
    have hnext : (s.slot + 1#5).toNat = s.slot.toNat + 1 := by bv_omega
    refine enterSlot_inv hsend (by rwa [hidx]) (by omega) (fun h3 => ?_) h
    have h2 : 2 ≤ s.slot.toNat := by omega
    simp only [hidx, hfrm, hnext]
    exact exitSlot_working (s := s.setRem 0#16) h2 (hslot.working hb h2)
  · exact endOfByte_inv hsend h

/-- The tick that ends a gap keeps the invariant: the next repetition, or idle with the line low as the gap left it
(R113). -/
theorem endOfGap_inv {s t : State} (hi : Inv s) (hp : s.phase = .gap) (h : endOfGap ctx (s.setRem 0#16) = .next t) :
    Inv t := by
  have hsend := (hi.send (by simp [hp])).of_keeps (setRem_keepsFrame s 0#16)
  unfold endOfGap at h
  split at h
  · exact repeatStart_inv hsend.toHostSound hsend.configured hsend.payload h
  · cases h
    obtain ⟨hline, -⟩ := hi.gapSound hp
    exact HostSound.inv_of_idle ⟨hi.live, hi.cfgLegal, hi.noError, hi.errorCause⟩ rfl hline

/-- SEQ_TICK keeps the invariant (R165). -/
theorem seqTick_inv {s t : State} (hi : Inv s) (h : seqTick ctx s = .next t) : Inv t := by
  rcases seqTick_cases ctx s with ⟨-, htick⟩ | ⟨hbusy, hr, htick⟩ | ⟨hp, -, htick⟩ | ⟨hp, -, htick⟩
  · rw [htick] at h
    cases h
    exact hi
  · rw [htick] at h
    cases h
    exact countDown_inv hi hbusy hr
  · exact endOfSlot_inv hi hp (htick ▸ h)
  · exact endOfGap_inv hi hp (htick ▸ h)

/-! ## Commands, resets and steps keep the invariant -/

/-- Of the cells the sequencer does not read, the invariant speaks in its host part alone. -/
theorem withUnread_inv {s h : State} (hi : Inv s) (hhost : HostSound (s.withUnread h)) : Inv (s.withUnread h) where
  live := hhost.live
  cfgLegal := hhost.cfgLegal
  noError := hhost.noError
  errorCause := hhost.errorCause
  idleLow := hi.idleLow
  busyConfigured := hi.busyConfigured
  busyLength := hi.busyLength
  busyPayload hbusy := (hi.busyPayload hbusy).of_eq rfl rfl rfl
  busyFrame := hi.busyFrame
  slotSound hp := by
    obtain ⟨hbyte, hslot, hhold, hlevel⟩ := hi.slotSound hp
    exact ⟨hbyte, hslot, hhold, hlevel⟩
  gapSound := hi.gapSound

theorem setInputs_inv {s : State} (hi : Inv s) (l : List Edge) : Inv (s.setInputs l) :=
  withUnread_inv (h := s.setInputs l) hi ⟨hi.live, hi.cfgLegal, hi.noError, hi.errorCause⟩

/-- The codes of the causes (R181). -/
theorem causeCode_bounds (cause : ErrorCause) : 1 ≤ (causeCode cause).toNat ∧ (causeCode cause).toNat ≤ 4 := by
  cases cause <;> decide

/-- A command error leaves one of the four causes (R180). -/
theorem raiseCmdError_inv {s : State} (hi : Inv s) (cause : ErrorCause) : Inv (raiseCmdError cause s) := by
  refine withUnread_inv (h := raiseCmdError cause s) hi ⟨hi.live, hi.cfgLegal, fun h => (nomatch h), fun _ => ?_⟩
  show 1 ≤ (if s.cmdErr then s.errCause else causeCode cause).toNat ∧ (if s.cmdErr then s.errCause else _).toNat ≤ 4
  split
  · exact hi.errorCause ‹_›
  · exact causeCode_bounds cause

theorem clearCmdError_inv {s : State} (hi : Inv s) : Inv (clearCmdError s) :=
  withUnread_inv (h := clearCmdError s) hi ⟨hi.live, hi.cfgLegal, fun _ => rfl, fun h => nomatch h⟩

/-- A reset edge leaves the invariant (R200), whatever the unspecified cells draw. -/
theorem resetEdge_inv {s : State} (hl : s.refused = none) : Inv (resetEdge s) :=
  HostSound.inv_of_idle ⟨hl, fun h => (nomatch h), fun _ => rfl, fun h => (nomatch h)⟩ rfl rfl

/-- What a command does keeps the invariant (R160 to R164). -/
theorem CommandEffect.inv {w : Word} {s t : State} (h : CommandEffect w s t) (hi : Inv s) : Inv t := by
  cases h with
  | nothing hd => exact hi
  | error cause => exact raiseCmdError_inv hi cause
  | clear hd => exact clearCmdError_inv hi
  | configure chan rid hd hidle hchan =>
    exact HostSound.inv_of_idle ⟨hi.live, fun _ => hchan, hi.noError, hi.errorCause⟩ hidle (hi.idleLow hidle)
  | start temp hum batt u t hd hidle hcfg hpay hrep =>
    have hlayout := payloadEncode_layout hpay
    obtain ⟨-, -, wire, -, hu⟩ := payloadEncode_eq_next hpay
    have hhost : HostSound u := by
      rw [hu]
      exact ⟨hi.live, hi.cfgLegal, hi.noError, hi.errorCause⟩
    exact repeatStart_inv hhost (hu ▸ hcfg) hlayout hrep

/-- An edge keeps the invariant: a reset, or the tick and then the command (R187). -/
theorem onEdge_inv {e : Edge} {s t : State} (hi : Inv s) (h : onEdge e s = .next t) : Inv t := by
  cases hr : e.rst with
  | true =>
    rw [onEdge_rst hr] at h
    cases h
    exact resetEdge_inv hi.live
  | false =>
    obtain ⟨u, htick, hcmd⟩ := onEdge_eq_next hr h
    have hu : Inv u := by
      rcases htick with rfl | htick
      · exact hi
      · exact seqTick_inv hi htick
    rcases hcmd with rfl | ⟨-, heffect⟩
    · exact hu
    · exact heffect.inv hu

/-- Settles O18: the invariant is kept by the tick, by every effect of a command, and by a reset edge. -/
theorem everyStepKeepsTheInvariant : Obligations.EveryStepKeepsTheInvariant := by
  intro s t hi h
  obtain ⟨-, ⟨-, rfl⟩ | ⟨e, es, -, hedge⟩⟩ := step_eq_next h
  · exact hi
  · exact onEdge_inv (setInputs_inv hi es) hedge

/-- Settles O17: the state after reset is idle with the line low, live, unconfigured and without an error. -/
theorem resetMeetsTheInvariant : Obligations.ResetMeetsTheInvariant :=
  HostSound.inv_of_idle ⟨rfl, fun h => (nomatch h), fun _ => rfl, fun h => (nomatch h)⟩ rfl rfl

end Sys2Proof.Machine
end

section
/-! PROOFS. Decoding and encoding are inverse to each other on every word, and the assembler gives the words they agree on
(R70 to R73, R77, R80). -/

namespace Sys2Proof.Machine

/-! ## The fields of a word, and the words of the commands, as numbers -/

/-- A field of a word, as a number. -/
theorem extractLsb'_toNat_eq (w : Word) (start len : Nat) :
    (w.extractLsb' start len).toNat = w.toNat / 2 ^ start % 2 ^ len := by
  rw [BitVec.extractLsb'_toNat, Nat.shiftRight_eq_div_pow]

/-- OP is what the word has from bit 28 on (R70). -/
theorem opField_toNat (w : Word) : (opField w).toNat = w.toNat / 2 ^ 28 := by
  have := w.isLt
  rw [opField, extractLsb'_toNat_eq]
  omega

theorem chanField_toNat (w : Word) : (chanField w).toNat = w.toNat / 2 ^ 5 % 2 ^ 3 := extractLsb'_toNat_eq w 5 3

theorem ridField_toNat (w : Word) : (ridField w).toNat = w.toNat % 2 ^ 5 := by
  rw [ridField, extractLsb'_toNat_eq, pow_zero, Nat.div_one]

theorem tempField_toNat (w : Word) : (tempField w).toNat = w.toNat % 2 ^ 11 := by
  rw [tempField, extractLsb'_toNat_eq, pow_zero, Nat.div_one]

theorem humField_toNat (w : Word) : (humField w).toNat = w.toNat / 2 ^ 11 % 2 ^ 7 := extractLsb'_toNat_eq w 11 7

theorem battField_toNat (w : Word) : (battField w).toNat = w.toNat / 2 ^ 18 % 2 := by
  rw [battField, ← BitVec.testBit_toNat, Nat.toNat_testBit]

/-- The word of NOP (R71). -/
theorem encode_nop_iff {w : Word} : encode .nop = some w ↔ w.toNat = 0 := by
  rw [encode, Option.some.injEq, BitVec.toNat_eq]
  exact eq_comm

/-- The word of CLRERR (R71). -/
theorem encode_clrerr_iff {w : Word} : encode .clrerr = some w ↔ w.toNat = 3 * 2 ^ 28 := by
  rw [encode, Option.some.injEq, BitVec.toNat_eq]
  exact eq_comm

/-- The word of a CONFIG (R72). -/
theorem encode_config_iff {chan : BitVec 3} {rid : BitVec 5} {w : Word} :
    encode (.config chan rid) = some w ↔ w.toNat = 2 ^ 28 + chan.toNat * 2 ^ 5 + rid.toNat := by
  simp only [encode, Option.some.injEq, BitVec.toNat_eq, toNat_append_eq, BitVec.toNat_ofNat]
  omega

/-- The word of a SEND (R73). -/
theorem encode_send_iff {temp : BitVec 11} {hum : BitVec 7} {batt : Bool} {w : Word} :
    encode (.send temp hum batt) = some w ↔
      w.toNat = 2 * 2 ^ 28 + batt.toNat * 2 ^ 18 + hum.toNat * 2 ^ 11 + temp.toNat := by
  simp only [encode, Option.some.injEq, BitVec.toNat_eq, toNat_append_eq, BitVec.toNat_ofNat, BitVec.toNat_ofBool]
  omega

/-! ## Decoding -/

/-- A reserved bit of a defined OP is 1 (R77). -/
def ReservedBitSet (w : Word) : Prop :=
  ((w.toNat / 2 ^ 28 = 0 ∨ w.toNat / 2 ^ 28 = 3) ∧ w.toNat % 2 ^ 28 ≠ 0) ∨
    (w.toNat / 2 ^ 28 = 1 ∧ w.toNat % 2 ^ 28 / 2 ^ 8 ≠ 0) ∨
    (w.toNat / 2 ^ 28 = 2 ∧ w.toNat % 2 ^ 28 / 2 ^ 19 ≠ 0)

/-- What the decoder can answer about a word, and when (R77). -/
inductive DecodeRule (w : Word) : Except DecodeError Instr → Prop where
  | reservedOp (hop : 4 ≤ w.toNat / 2 ^ 28) : DecodeRule w (.error .reservedOp)
  | reservedBits (hbit : ReservedBitSet w) : DecodeRule w (.error .reservedBits)
  | command (i : Instr) (hword : encode i = some w) : DecodeRule w (.ok i)

/-- The decoder answers every word by the rule: each of its branches is one of the three cases. -/
theorem decode_rule (w : Word) : DecodeRule w (decode w) := by
  have hchan := chanField_toNat w
  have hrid := ridField_toNat w
  have htemp := tempField_toNat w
  have hhum := humField_toNat w
  have hbatt := battField_toNat w
  simp only [decode, ne_eq, BitVec.toNat_eq, opField_toNat, extractLsb'_toNat_eq, BitVec.toNat_ofNat]
  split_ifs with hop h0 hlow0 h3 hlow3 h1 hlow1 hlow2
  · exact .reservedOp hop
  · exact .command .nop (encode_nop_iff.mpr (by omega))
  · exact .reservedBits (.inl (by omega))
  · exact .command .clrerr (encode_clrerr_iff.mpr (by omega))
  · exact .reservedBits (.inl (by omega))
  · exact .command (.config _ _) (encode_config_iff.mpr (by omega))
  · exact .reservedBits (.inr (.inl (by omega)))
  · exact .command (.send _ _ _) (encode_send_iff.mpr (by omega))
  · exact .reservedBits (.inr (.inr (by omega)))

theorem encode_of_decode {w : Word} {i : Instr} (h : decode w = .ok i) : encode i = some w := by
  have hrule := decode_rule w
  rw [h] at hrule
  cases hrule
  assumption

theorem decode_of_encode {w : Word} {i : Instr} (h : encode i = some w) : decode w = .ok i := by
  cases i with
  | nop =>
    cases h
    rfl
  | clrerr =>
    cases h
    rfl
  | config chan rid =>
    have hw := encode_config_iff.mp h
    have hop : opField w = 1#4 := by rw [BitVec.toNat_eq, opField_toNat, BitVec.toNat_ofNat]; omega
    have hreserved : w.extractLsb' 8 20 = 0#20 := by
      rw [BitVec.toNat_eq, extractLsb'_toNat_eq, BitVec.toNat_ofNat]; omega
    have hchan : chanField w = chan := by rw [BitVec.toNat_eq, chanField_toNat]; omega
    have hrid : ridField w = rid := by rw [BitVec.toNat_eq, ridField_toNat]; omega
    simp [decode, hop, hreserved, hchan, hrid]
  | send temp hum batt =>
    have hw := encode_send_iff.mp h
    have hle := Bool.toNat_le batt
    have hop : opField w = 2#4 := by rw [BitVec.toNat_eq, opField_toNat, BitVec.toNat_ofNat]; omega
    have hreserved : w.extractLsb' 19 9 = 0#9 := by
      rw [BitVec.toNat_eq, extractLsb'_toNat_eq, BitVec.toNat_ofNat]; omega
    have htemp : tempField w = temp := by rw [BitVec.toNat_eq, tempField_toNat]; omega
    have hhum : humField w = hum := by rw [BitVec.toNat_eq, humField_toNat]; omega
    have hbatt : battField w = batt := by
      rw [Bool.eq_iff_iff, ← Bool.toNat_eq_one, battField_toNat, ← Bool.toNat_eq_one]; omega
    simp [decode, hop, hreserved, htemp, hhum, hbatt]
  | _ => cases h

/-- The decoder is the inverse of the encoding: a word decodes to an operation exactly when it is that operation's word. -/
theorem decode_eq_ok_iff {w : Word} {i : Instr} : decode w = .ok i ↔ encode i = some w :=
  ⟨encode_of_decode, decode_of_encode⟩

/-- Settles O5: each of these words is the command's own. -/
theorem wordsWrittenFromTheFormatsDecode : Obligations.WordsWrittenFromTheFormatsDecode :=
  ⟨decode_of_encode rfl, decode_of_encode rfl, decode_of_encode rfl, decode_of_encode rfl, decode_of_encode rfl⟩

/-- A word as the opcode table numbers its bits is the word itself. -/
theorem tableWord_toNat (w : Word) : tableWord 32 w.toNat = w := by
  rw [tableWord, Nat.mod_eq_of_lt w.isLt, BitVec.ofNat_toNat, BitVec.setWidth_eq]

theorem encode_of_isCommand {i : Instr} (h : isCommand i = true) : ∃ w, encode i = some w := by
  cases i with
  | nop | clrerr | config | send => exact ⟨_, rfl⟩
  | _ => cases h

/-- Settles O1: a command has a word, and the decoder inverts the encoding. -/
theorem commandsDecodeFromTheirWords : Obligations.CommandsDecodeFromTheirWords := by
  intro i hcmd _
  obtain ⟨w, hw⟩ := encode_of_isCommand hcmd
  have hd := decode_of_encode hw
  refine ⟨w, hw, hd, ?_⟩
  rw [decodeTableWord, tableWord_toNat, hd]

/-- Settles O2: the encoding inverts the decoder, and only commands are decoded. -/
theorem decodedWordsAreTheCommandsWords : Obligations.DecodedWordsAreTheCommandsWords :=
  fun _ _ h => ⟨encode_of_decode h, isCommand_of_decode h⟩

/-! ## The order of the rule, and the masks of the opcode table -/

theorem decode_eq_reservedOp_iff {w : Word} : decode w = .error .reservedOp ↔ 4 ≤ w.toNat / 2 ^ 28 := by
  constructor <;> intro h
  · have hrule := decode_rule w
    rw [h] at hrule
    cases hrule
    assumption
  · rw [← opField_toNat] at h
    rw [decode, if_pos h]

/-- The word of a command has none of the reserved bits of its OP. -/
theorem not_reservedBitSet_of_encode {w : Word} {i : Instr} (h : encode i = some w) : ¬ReservedBitSet w := by
  unfold ReservedBitSet
  cases i with
  | nop => have := encode_nop_iff.mp h; omega
  | clrerr => have := encode_clrerr_iff.mp h; omega
  | config chan rid => have := encode_config_iff.mp h; omega
  | send temp hum batt => have := encode_send_iff.mp h; have := Bool.toNat_le batt; omega
  | _ => cases h

theorem decode_eq_reservedBits_iff {w : Word} : decode w = .error .reservedBits ↔ ReservedBitSet w := by
  have hrule := decode_rule w
  generalize decode w = r at hrule
  cases hrule with
  | reservedOp hop =>
    have hno : ¬ReservedBitSet w := by unfold ReservedBitSet; omega
    simp [hno]
  | reservedBits hbit => simp [hbit]
  | command i hword => simp [not_reservedBitSet_of_encode hword]

/-- A word under a mask of its bits from `k` on, as a number. -/
theorem and_highMask_eq_iff (w v : Word) (k : Nat) :
    w &&& (BitVec.allOnes 32 <<< k) = v ↔ w.toNat / 2 ^ k * 2 ^ k = v.toNat := by
  have hlt := (Nat.div_mul_le_self w.toNat (2 ^ k)).trans_lt w.isLt
  rw [← BitVec.shiftLeft_ushiftRight, BitVec.toNat_eq, BitVec.toNat_shiftLeft, BitVec.toNat_ushiftRight,
    Nat.shiftRight_eq_div_pow, Nat.shiftLeft_eq, Nat.mod_eq_of_lt hlt]

theorem and_fullMask (w : Word) : w &&& 0xFFFFFFFF#32 = w := BitVec.and_allOnes

theorem decode_nop_iff_mask (w : Word) : decode w = .ok .nop ↔ w &&& 0xFFFFFFFF#32 = 0x00000000#32 := by
  rw [decode_eq_ok_iff, encode_nop_iff, and_fullMask, BitVec.toNat_eq]
  rfl

theorem decode_clrerr_iff_mask (w : Word) : decode w = .ok .clrerr ↔ w &&& 0xFFFFFFFF#32 = 0x30000000#32 := by
  rw [decode_eq_ok_iff, encode_clrerr_iff, and_fullMask, BitVec.toNat_eq]
  rfl

theorem decode_config_iff_mask (w : Word) :
    (∃ chan rid, decode w = .ok (.config chan rid)) ↔ w &&& 0xFFFFFF00#32 = 0x10000000#32 := by
  rw [show (0xFFFFFF00#32) = BitVec.allOnes 32 <<< 8 from rfl, and_highMask_eq_iff, BitVec.toNat_ofNat]
  simp only [decode_eq_ok_iff, encode_config_iff]
  constructor
  · rintro ⟨chan, rid, hw⟩
    omega
  · intro hw
    refine ⟨chanField w, ridField w, ?_⟩
    rw [chanField_toNat, ridField_toNat]
    omega

theorem decode_send_iff_mask (w : Word) :
    (∃ temp hum batt, decode w = .ok (.send temp hum batt)) ↔ w &&& 0xFFF80000#32 = 0x20000000#32 := by
  rw [show (0xFFF80000#32) = BitVec.allOnes 32 <<< 19 from rfl, and_highMask_eq_iff, BitVec.toNat_ofNat]
  simp only [decode_eq_ok_iff, encode_send_iff]
  constructor
  · rintro ⟨temp, hum, batt, hw⟩
    have := Bool.toNat_le batt
    omega
  · intro hw
    refine ⟨tempField w, humField w, battField w, ?_⟩
    rw [tempField_toNat, humField_toNat, battField_toNat]
    omega

theorem decode_config_fields {w : Word} {chan : BitVec 3} {rid : BitVec 5} (h : decode w = .ok (.config chan rid)) :
    chan.toNat = w.toNat / 2 ^ 5 % 2 ^ 3 ∧ rid.toNat = w.toNat % 2 ^ 5 := by
  have hw := encode_config_iff.mp (encode_of_decode h)
  omega

/-- TEMP is the 11-bit field read as a signed number (R74). -/
theorem tempValue_eq (t : BitVec 11) : tempValue t = t.toNat - (if t.toNat < 1024 then 0 else 2048 : Int) := by
  rw [tempValue, BitVec.toInt_eq_toNat_cond]
  split_ifs <;> omega

theorem decode_send_fields {w : Word} {temp : BitVec 11} {hum : BitVec 7} {batt : Bool}
    (h : decode w = .ok (.send temp hum batt)) :
    temp.toNat = w.toNat % 2 ^ 11 ∧ hum.toNat = w.toNat / 2 ^ 11 % 2 ^ 7 ∧ (batt = true ↔ w.toNat / 2 ^ 18 % 2 = 1) := by
  have hw := encode_send_iff.mp (encode_of_decode h)
  have hle := Bool.toNat_le batt
  have hbatt : batt.toNat = w.toNat / 2 ^ 18 % 2 := by omega
  refine ⟨by omega, by omega, ?_⟩
  rw [← hbatt, Bool.toNat_eq_one]

/-- Settles O3: the two errors by the decoder's order, the operations by the words of the commands. -/
theorem decodingFollowsTheRuleOnEveryWord : Obligations.DecodingFollowsTheRuleOnEveryWord := by
  intro w
  refine ⟨decode_eq_reservedOp_iff, decode_eq_reservedBits_iff, decode_nop_iff_mask w, decode_config_iff_mask w,
    decode_send_iff_mask w, decode_clrerr_iff_mask w, fun _ _ => decode_config_fields, fun temp hum batt h => ?_,
    fun s h => ?_, fun s h => ?_⟩
  · obtain ⟨htemp, hhum, hbatt⟩ := decode_send_fields h
    exact ⟨htemp, by rw [tempValue_eq, htemp], hhum, hbatt⟩
  · rw [onCommand, h]
  · rw [onCommand, h]

/-! ## The assembler -/

theorem assemble_config_isSome (ch id : Nat) : (assemble (.config ch id)).isSome = true ↔ ch ≤ 7 ∧ id ≤ 31 := by
  simp only [assemble, encode, Option.isSome_ite]
  omega

theorem assemble_send_isSome (temp : Int) (hum : Nat) (batt : Bool) :
    (assemble (.send temp hum batt)).isSome = true ↔ -1024 ≤ temp ∧ temp ≤ 1023 ∧ hum ≤ 127 := by
  simp only [assemble, encode, Option.isSome_ite]
  omega

theorem decode_assemble_config {ch id : Nat} {w : Word} (h : assemble (.config ch id) = some w) :
    ∃ chan rid, decode w = .ok (.config chan rid) ∧ chanValue chan = ch ∧ ridValue rid = id := by
  obtain ⟨⟨hch, hid⟩, hword⟩ := Option.ite_none_right_eq_some.mp h
  exact ⟨_, _, decode_of_encode hword, (BitVec.toNat_ofNat ch 3).trans (Nat.mod_eq_of_lt hch),
    (BitVec.toNat_ofNat id 5).trans (Nat.mod_eq_of_lt hid)⟩

theorem decode_assemble_send {temp : Int} {hum : Nat} {batt : Bool} {w : Word}
    (h : assemble (.send temp hum batt) = some w) :
    ∃ t h, decode w = .ok (.send t h batt) ∧ tempValue t = temp ∧ humValue h = hum := by
  obtain ⟨⟨hlo, hhi, hhum⟩, hword⟩ := Option.ite_none_right_eq_some.mp h
  have htemp : (BitVec.ofInt 11 temp).toInt = temp :=
    BitVec.toInt_ofInt_eq_self (by decide) (by simpa using hlo) (by simpa using Int.lt_add_one_iff.mpr hhi)
  exact ⟨_, _, decode_of_encode hword, htemp, (BitVec.toNat_ofNat hum 7).trans (Nat.mod_eq_of_lt hhum)⟩

/-- Settles O6: the assembler's checks are the field ranges, and the word it gives is the encoding, which decodes back. -/
theorem assemblerAcceptsWhatFits : Obligations.AssemblerAcceptsWhatFits :=
  ⟨assemble_config_isSome, assemble_send_isSome, fun _ _ _ => decode_assemble_config,
    fun _ _ _ _ => decode_assemble_send, fun _ => rfl⟩

end Sys2Proof.Machine
end

section
/-! PROOFS. In a sound busy state every tick takes one off the ticks left (R112, R113, R120, R128, R165). -/

namespace Sys2Proof.Machine

theorem ticksLeft_of_idle {s : State} (hp : s.phase = .idle) : ticksLeft s = 0 := by
  rw [ticksLeft, hp]

theorem ticksLeft_of_slot {s : State} (hp : s.phase = .slot) :
    ticksLeft s = s.rem.toNat + (17 - s.slot.toNat) * 500 + (s.flen.toNat - 1 - s.bidx.toNat) * 9000 + 30000 +
      (2 - s.rep.toNat) * 120000 := by
  rw [ticksLeft, hp]

theorem ticksLeft_of_gap {s : State} (hp : s.phase = .gap) :
    ticksLeft s = s.rem.toNat + (2 - s.rep.toNat) * 120000 := by
  rw [ticksLeft, hp]

/-- While busy the ticks left are those of the current segment and those after it. -/
theorem ticksLeft_of_busy {s : State} (hbusy : s.phase ≠ .idle) :
    ticksLeft s = s.rem.toNat + ticksLeft (s.setRem 0#16) := by
  cases hp : s.phase with
  | idle => exact absurd hp hbusy
  | slot =>
    rw [ticksLeft_of_slot hp, ticksLeft_of_slot (s := s.setRem 0#16) hp, State.setRem_rem, State.setRem_slot,
      State.setRem_flen, State.setRem_bidx, State.setRem_rep, BitVec.toNat_ofNat]
    omega
  | gap =>
    rw [ticksLeft_of_gap hp, ticksLeft_of_gap (s := s.setRem 0#16) hp, State.setRem_rem, State.setRem_rep,
      BitVec.toNat_ofNat]
    omega

/-- Entering a slot of a byte of FRM completes; the slot, the slots and bytes after it, the gap and the repetitions still to
come are left (R120, R166). -/
theorem enterSlot_ticksLeft (k : BitVec 5) {s : State} (hb : s.bidx.toNat < 10) :
    ∃ t, enterSlot ctx k s = .next t ∧
      ticksLeft t = 500 + (17 - k.toNat) * 500 + (s.flen.toNat - 1 - s.bidx.toNat) * 9000 + 30000 +
        (2 - s.rep.toNat) * 120000 := by
  rw [enterSlot_of_lt hb, holdTicks_halfBit]
  exact ⟨_, rfl, ticksLeft_of_slot rfl⟩

/-- What follows slot 17 of a byte of the frame completes: the bytes after it, the gap and the repetitions are left (R124). -/
theorem endOfByte_ticksLeft {s : State} (hb : s.bidx.toNat < 10) (hlen : s.flen = 10#6) :
    ∃ t, endOfByte ctx s = .next t ∧
      ticksLeft t = (9 - s.bidx.toNat) * 9000 + 30000 + (2 - s.rep.toNat) * 120000 := by
  have hlen10 : s.flen.toNat = 10 := by rw [hlen]; rfl
  unfold endOfByte
  split
  · rename_i hmore
    have hnext : (s.bidx + 1#4).toNat = s.bidx.toNat + 1 := by bv_omega
    obtain ⟨t, ht, hleft⟩ := enterSlot_ticksLeft 0#5 (s := s.setBidx (s.bidx + 1#4)) (by rw [State.setBidx_bidx]; omega)
    refine ⟨t, ht, ?_⟩
    rw [hleft, State.setBidx_bidx, State.setBidx_flen, State.setBidx_rep, hnext, BitVec.toNat_ofNat]
    omega
  · refine ⟨_, rfl, ?_⟩
    rw [ticksLeft_of_gap rfl, holdTicks_gap, State.startGap_rem, State.startGap_rep, BitVec.toNat_ofNat]
    omega

/-- The tick that ends a slot of a sound state completes, and enters a segment that accounts for all that was left after the
slot (R165). -/
theorem endOfSlot_ticksLeft {s : State} (hi : Inv s) (hp : s.phase = .slot) :
    ∃ t, endOfSlot ctx (s.setRem 0#16) = .next t ∧ ticksLeft t = ticksLeft (s.setRem 0#16) := by
  have hbusy : s.phase ≠ .idle := by simp [hp]
  have hslot := hi.slotSound hp
  have hlen := hi.busyLength hbusy
  have hlen10 : s.flen.toNat = 10 := by rw [hlen]; rfl
  have hb : s.bidx.toNat < 10 := hlen10 ▸ hslot.byteInFrame
  obtain ⟨hk, hidx, hrep, hflen⟩ := exitSlot_position (s.setRem 0#16)
  simp only [State.setRem_slot, State.setRem_bidx, State.setRem_rep, State.setRem_flen] at hk hidx hrep hflen
  have hleft := ticksLeft_of_slot (s := s.setRem 0#16) hp
  simp only [State.setRem_rem, State.setRem_slot, State.setRem_bidx, State.setRem_rep, State.setRem_flen, hlen10,
    BitVec.toNat_ofNat] at hleft
  simp only [endOfSlot, hk]
  split
  · rename_i hlt
    have hnext : (s.slot + 1#5).toNat = s.slot.toNat + 1 := by bv_omega
    obtain ⟨t, ht, ht'⟩ := enterSlot_ticksLeft (s.slot + 1#5) (s := exitSlot (s.setRem 0#16)) (by rwa [hidx])
    rw [hnext, hidx, hrep, hflen, hlen10] at ht'
    exact ⟨t, ht, by omega⟩
  · have h17 := hslot.slotInByte
    obtain ⟨t, ht, ht'⟩ := endOfByte_ticksLeft (s := exitSlot (s.setRem 0#16)) (by rwa [hidx]) (by rwa [hflen])
    rw [hidx, hrep] at ht'
    exact ⟨t, ht, by omega⟩

/-- The tick that ends a gap of a sound state completes: a repetition of 120000 ticks starts, or none is left (R113). -/
theorem endOfGap_ticksLeft {s : State} (hi : Inv s) (hp : s.phase = .gap) :
    ∃ t, endOfGap ctx (s.setRem 0#16) = .next t ∧ ticksLeft t = ticksLeft (s.setRem 0#16) := by
  have hleft := ticksLeft_of_gap (s := s.setRem 0#16) hp
  simp only [State.setRem_rem, State.setRem_rep, BitVec.toNat_ofNat] at hleft
  have hpay : PayloadLayout (s.setRem 0#16) := (hi.busyPayload (by simp [hp])).of_eq rfl rfl rfl
  simp only [endOfGap, State.setRem_rep, show ctx.repeats = 3 from rfl]
  split
  · rename_i hmore
    have hnext : (s.rep + 1#2).toNat = s.rep.toNat + 1 := by bv_omega
    obtain ⟨t, ht⟩ := repeatStart_completes (r := s.rep + 1#2) (s := s.setRem 0#16) (by omega) hpay.count.le
    refine ⟨t, ht, ?_⟩
    obtain ⟨m, f, -, hf, rfl⟩ := repeatStart_eq_next ht
    rw [buildFrame_loadFrame m _ hpay.count] at hf
    cases hf
    have hlen : (framedPayload (s.setRem 0#16).raw m).flen.toNat = 10 := rfl
    simp only [ticksLeft_of_slot, holdTicks_halfBit, hnext, hlen, BitVec.toNat_ofNat]
    omega
  · refine ⟨_, rfl, ?_⟩
    rw [ticksLeft_of_idle rfl]
    omega

/-- In a sound busy state a tick completes and takes one off the ticks left (R165, R168). -/
theorem seqTick_ticksLeft {s : State} (hi : Inv s) (hbusy : s.phase ≠ .idle) :
    ∃ t, seqTick ctx s = .next t ∧ ticksLeft t + 1 = ticksLeft s := by
  have hrem : 1 ≤ s.rem.toNat := by
    cases hp : s.phase with
    | idle => exact absurd hp hbusy
    | slot => exact (hi.slotSound hp).holding.1
    | gap => exact (hi.gapSound hp).2.1
  have hleft := ticksLeft_of_busy hbusy
  rcases seqTick_cases ctx s with ⟨hp, -⟩ | ⟨-, hr, htick⟩ | ⟨hp, hr, htick⟩ | ⟨hp, hr, htick⟩
  · exact absurd hp hbusy
  · refine ⟨_, htick, ?_⟩
    have hleft' := ticksLeft_of_busy (s := s.setRem (s.rem - 1#16)) hbusy
    rw [show (s.setRem (s.rem - 1#16)).setRem 0#16 = s.setRem 0#16 from rfl, State.setRem_rem] at hleft'
    bv_omega
  · obtain ⟨t, ht, ht'⟩ := endOfSlot_ticksLeft hi hp
    exact ⟨t, htick.trans ht, by bv_omega⟩
  · obtain ⟨t, ht, ht'⟩ := endOfGap_ticksLeft hi hp
    exact ⟨t, htick.trans ht, by bv_omega⟩

end Sys2Proof.Machine
end

section
/-! PROOFS. The lines of a host program, and what WAITIDLE takes (R81, R168). -/

namespace Sys2Proof.Machine

/-- In a live state the event `Tick` is SEQ_TICK. -/
theorem onTick_of_live {s : State} (hl : s.refused = none) : onTick s = seqTick ctx s := whenLive_of_live hl

/-- The edge of a command line: its tick first if it has one, then its word. -/
theorem onEdge_lineEdge (w : Word) (withTick : Bool) (s : State) :
    onEdge (lineEdge w withTick) s = andThen (if withTick then onTick s else .next s) (onCommand w) := by
  cases withTick <;> rfl

theorem runLine_command {a : AsmLine} {w : Word} (withTick : Bool) {s : State} (hl : s.refused = none)
    (ha : assemble a = some w) :
    runLine (.command a withTick) s =
      some (andThen (andThen (if withTick then onTick s else .next s) (onCommand w)) fun t => .next ⟨t, none, none⟩) := by
  simp only [runLine, ha, Option.map_some, whenLive_of_live hl, onEdge_lineEdge]
  rfl

theorem runLine_ticks (n : Nat) {s : State} (hl : s.refused = none) :
    runLine (.ticks n) s = some (andThen (ticks n s) fun t => .next ⟨t, none, none⟩) := by
  simp only [runLine, whenLive_of_live hl]
  rfl

theorem runLine_waitIdle {s : State} (hl : s.refused = none) :
    runLine .waitIdle s = some (andThen (waitIdle s) fun p => .next ⟨p.2, some p.1, none⟩) := by
  simp only [runLine, whenLive_of_live hl, andThen_next]

theorem runLine_reset {s : State} (hl : s.refused = none) :
    runLine .reset s = some (.next ⟨resetEdge s, none, none⟩) := by
  simp only [runLine, whenLive_of_live hl]
  rfl

theorem runLine_read {s : State} (hl : s.refused = none) : runLine .read s = some (.next ⟨s, none, some (readPorts s)⟩) := by
  simp only [runLine, whenLive_of_live hl, andThen_next]

/-- A poll that answers lets ticks pass one after another, each from a state with BUSY = 1, and counts them. -/
theorem pollBusy_eq_next {n taken m : Nat} {s t : State} (h : pollBusy n taken s = .next (m, t)) :
    ∃ k, m = taken + k ∧ ticks k s = .next t ∧ ∀ j < k, ∃ u, ticks j s = .next u ∧ busy u = true := by
  induction n generalizing taken s with
  | zero =>
    cases h
    exact ⟨0, rfl, rfl, by simp⟩
  | succ n ih =>
    unfold pollBusy at h
    split at h
    · rename_i hbusy
      obtain ⟨u, htick, hrest⟩ := andThen_eq_next.mp h
      obtain ⟨k, hm, hk, hbefore⟩ := ih hrest
      refine ⟨k + 1, by omega, by rwa [ticks, htick, andThen_next], fun j hj => ?_⟩
      cases j with
      | zero => exact ⟨s, rfl, hbusy⟩
      | succ j =>
        rw [ticks, htick, andThen_next]
        exact hbefore j (by omega)
    · cases h
      exact ⟨0, rfl, rfl, by simp⟩

/-- WAITIDLE, if it answers: idle, after exactly the ticks it reports, with BUSY = 1 before each of them. -/
theorem runLine_waitIdle_eq_next {s : State} {r : LineResult} (hl : s.refused = none)
    (h : runLine .waitIdle s = some (.next r)) :
    busy r.state = false ∧ r.sample = none ∧ ∃ n, r.waited = some n ∧ ticks n s = .next r.state ∧
      ∀ k < n, ∃ u, ticks k s = .next u ∧ busy u = true := by
  rw [runLine_waitIdle hl, Option.some.injEq] at h
  obtain ⟨⟨n, t⟩, hwait, hr⟩ := andThen_eq_next.mp h
  cases hr
  obtain ⟨k, hn, hticks, hbefore⟩ := pollBusy_eq_next hwait
  rw [Nat.zero_add] at hn
  subst hn
  exact ⟨waitIdle_idle hwait, rfl, n, rfl, hticks, hbefore⟩

/-- Settles O56: one rule for each kind of line. -/
theorem hostScriptLinesActAsTheirEvents : Obligations.HostScriptLinesActAsTheirEvents :=
  fun _ hl => ⟨fun _ _ withTick ha => runLine_command withTick hl ha, fun n => runLine_ticks n hl,
    fun _ h => runLine_waitIdle_eq_next hl h, runLine_reset hl, runLine_read hl⟩

/-- From a sound state a poll with at least the bound's number of ticks takes the ticks left, by induction on that number:
each tick lowers the bound and takes one off the ticks left. -/
theorem pollBusy_ticksLeft {n taken : Nat} {s : State} (hi : Inv s) (hn : pollBound s ≤ n) :
    ∃ t, pollBusy n taken s = .next (taken + ticksLeft s, t) ∧ t.phase = .idle ∧ t.line = false ∧ t.raw = s.raw := by
  induction n generalizing taken s with
  | zero =>
    have hp : s.phase = .idle := by
      by_contra hbusy
      have := one_le_holdLeft s
      rw [pollBound_of_busy hbusy] at hn
      omega
    rw [ticksLeft_of_idle hp]
    exact ⟨s, rfl, hp, hi.idleLow hp, rfl⟩
  | succ n ih =>
    by_cases hp : s.phase = .idle
    · rw [pollBusy, if_neg (by simp [busy, hp]), ticksLeft_of_idle hp]
      exact ⟨s, rfl, hp, hi.idleLow hp, rfl⟩
    · obtain ⟨u, htick, hleft⟩ := seqTick_ticksLeft hi hp
      have hbound := seqTick_pollBound hp htick
      obtain ⟨t, hpoll, hidle, hline, hraw⟩ := ih (taken := taken + 1) (seqTick_inv hi htick) (by omega)
      refine ⟨t, ?_, hidle, hline, hraw.trans (seqTick_keepsHostSide htick).raw⟩
      rw [pollBusy, if_pos (busy_eq_true.mpr hp), onTick_of_live hi.live, htick, andThen_next, hpoll, ← hleft]
      congr 2
      omega

/-- Settles O57: WAITIDLE is the poll with its bound, and in a sound state each of its ticks takes one off the ticks left. -/
theorem waitIdleTakesTheTicksLeft : Obligations.WaitIdleTakesTheTicksLeft := by
  intro s hi
  obtain ⟨t, hpoll, hidle, hline, hraw⟩ := pollBusy_ticksLeft (taken := 0) hi le_rfl
  refine ⟨t, ?_, hidle, hline, hraw⟩
  rw [runLine_waitIdle hi.live, waitIdle, hpoll, Nat.zero_add, andThen_next]

end Sys2Proof.Machine
end

section
/-! PROOFS. The transform: OBSCURE is the inverse of an exclusive OR with a shift, and MIX, linear in its byte, is fixed
by the images of the single bits (R90 to R94). -/

namespace Sys2Proof.Machine

/-! ## Functions of a byte that are linear over GF(2) -/

/-- `f` is linear over GF(2): it sends an exclusive OR to the exclusive OR of the images. -/
def XorLinear (f : Byte → Byte) : Prop := ∀ a b, f (a ^^^ b) = f a ^^^ f b

section XorLinear
variable {f g : Byte → Byte}

theorem XorLinear.id : XorLinear fun b => b := fun _ _ => rfl

theorem XorLinear.xor (hf : XorLinear f) (hg : XorLinear g) : XorLinear fun b => f b ^^^ g b := by
  intro a b
  simp only [hf a b, hg a b]
  ac_rfl

theorem XorLinear.shiftLeft (hf : XorLinear f) (n : Nat) : XorLinear fun b => f b <<< n := by
  intro a b
  simp only [hf a b, BitVec.shiftLeft_xor_distrib]

theorem XorLinear.ushiftRight (hf : XorLinear f) (n : Nat) : XorLinear fun b => f b >>> n := by
  intro a b
  simp only [hf a b, BitVec.ushiftRight_xor_distrib]

/-- An exclusive OR with a constant, done when a bit of a linear function is set, keeps linearity: applied for both of
two bytes, the constant cancels. -/
theorem XorLinear.xorWhen (hf : XorLinear f) (hg : XorLinear g) (i : Nat) (k : Byte) :
    XorLinear fun b => if (g b).getLsbD i then f b ^^^ k else f b := by
  intro a b
  simp only [hf a b, hg a b, BitVec.getLsbD_xor]
  match (g a).getLsbD i, (g b).getLsbD i with
  | false, false => rfl
  | false, true => exact BitVec.xor_assoc ..
  | true, false => show f a ^^^ f b ^^^ k = f a ^^^ k ^^^ f b; ac_rfl
  | true, true =>
    calc f a ^^^ f b
        = f a ^^^ f b ^^^ (k ^^^ k) := by rw [BitVec.xor_self, BitVec.xor_zero]
      _ = f a ^^^ k ^^^ (f b ^^^ k) := by ac_rfl

theorem XorLinear.map_zero (hf : XorLinear f) : f 0#8 = 0#8 := by
  have h := hf 0#8 0#8
  rwa [BitVec.xor_self, BitVec.xor_self] at h

/-- What a linear function undoes is linear. -/
theorem XorLinear.of_leftInverse (hg : XorLinear g) (h : Function.LeftInverse g f) : XorLinear f := by
  have hinj : Function.Injective g := Finite.injective_iff_surjective.mpr h.surjective
  intro a b
  apply hinj
  rw [hg, h, h, h]

theorem xorWhen_twoPow_eq (a b : Byte) (n : Nat) :
    (if b.getLsbD n then a ^^^ BitVec.twoPow 8 n else a) = a ^^^ (b &&& BitVec.twoPow 8 n) := by
  rw [BitVec.and_twoPow]
  split
  · rfl
  · exact BitVec.xor_zero.symm

/-- The low `n` bits of a byte, collected from its single bits. -/
theorem getLsbD_foldl_twoPow (b : Byte) (n : Nat) {j : Nat} (hj : j < 8) :
    ((List.range n).foldl (fun a i => if b.getLsbD i then a ^^^ BitVec.twoPow 8 i else a) 0#8).getLsbD j =
      (decide (j < n) && b.getLsbD j) := by
  induction n with
  | zero => simp
  | succ n ih =>
    rw [List.range_succ, List.foldl_append, List.foldl_cons, List.foldl_nil, xorWhen_twoPow_eq, BitVec.getLsbD_xor, ih,
      BitVec.getLsbD_and, BitVec.getLsbD_twoPow]
    rcases Nat.lt_trichotomy j n with hlt | heq | hgt
    · simp [hlt, hlt.ne', hlt.trans n.lt_succ_self]
    · simp [← heq, hj]
    · simp [hgt.not_gt, hgt.ne, Nat.not_lt.mpr hgt]

/-- A byte is the exclusive OR of its single bits. -/
theorem foldl_twoPow_eq (b : Byte) :
    (List.range 8).foldl (fun a i => if b.getLsbD i then a ^^^ BitVec.twoPow 8 i else a) 0#8 = b :=
  BitVec.eq_of_getLsbD_eq fun i hi => by rw [getLsbD_foldl_twoPow b 8 hi, decide_eq_true hi, Bool.true_and]

/-- A linear function is fixed by the images of the single bits. -/
theorem XorLinear.eq_foldl (hf : XorLinear f) (b : Byte) :
    f b = (List.range 8).foldl (fun a i => if b.getLsbD i then a ^^^ f (BitVec.twoPow 8 i) else a) 0#8 := by
  have hom := List.foldl_hom f (l := List.range 8) (init := 0#8)
    (g₁ := fun a i => if b.getLsbD i then a ^^^ BitVec.twoPow 8 i else a)
    (g₂ := fun a i => if b.getLsbD i then a ^^^ f (BitVec.twoPow 8 i) else a) fun a i => by rw [apply_ite f, hf]
  rw [foldl_twoPow_eq, hf.map_zero] at hom
  exact hom.symm

end XorLinear

/-! ## OBSCURE -/

/-- The inverse of OBSCURE that R92 gives. -/
def unobscure (a : Byte) : Byte := a ^^^ (a <<< 1)

theorem unobscure_xorLinear : XorLinear unobscure := XorLinear.id.xor (XorLinear.id.shiftLeft 1)

/-- The loop of R90 telescopes under `unobscure`: of the shifted inputs it adds up, only the first and the one that the
next pass would add are left. -/
theorem unobscure_obscureLoop (n : Nat) (acc inp : Byte) :
    unobscure (obscureLoop n acc inp) = unobscure acc ^^^ inp ^^^ (inp <<< n) := by
  induction n generalizing acc inp with
  | zero => simp [obscureLoop]
  | succ n ih =>
    by_cases h0 : inp = 0#8
    · simp [obscureLoop, h0]
    · calc unobscure (obscureLoop (n + 1) acc inp)
          = unobscure (acc ^^^ inp) ^^^ (inp <<< 1) ^^^ (inp <<< 1 <<< n) := by rw [obscureLoop, if_neg h0, ih]
        _ = unobscure acc ^^^ inp ^^^ (inp <<< 1 <<< n) ^^^ (inp <<< 1 ^^^ inp <<< 1) := by
          rw [unobscure_xorLinear, unobscure.eq_def inp]; ac_rfl
        _ = unobscure acc ^^^ inp ^^^ (inp <<< (n + 1)) := by
          rw [BitVec.xor_self, BitVec.xor_zero, ← BitVec.shiftLeft_add, Nat.add_comm 1 n]

/-- Eight passes shift the whole byte out, so `unobscure` undoes OBSCURE (R92). -/
theorem unobscure_obscure : Function.LeftInverse unobscure obscure := by
  intro b
  rw [obscure, unobscure_obscureLoop, BitVec.shiftLeft_eq_zero le_rfl]
  simp [unobscure]

theorem obscure_xorLinear : XorLinear obscure := unobscure_xorLinear.of_leftInverse unobscure_obscure

theorem obscure_bijective : Function.Bijective obscure :=
  Finite.injective_iff_bijective.mp unobscure_obscure.injective

theorem obscure_getLsbD_zero (b : Byte) : (obscure b).getLsbD 0 = b.getLsbD 0 := by
  conv_rhs => rw [← unobscure_obscure b]
  simp [unobscure]

/-- A bit of OBSCURE is the bit below it with one more bit of the byte (R92). -/
theorem obscure_getLsbD_succ (b : Byte) {i : Nat} (hi : i + 1 < 8) :
    (obscure b).getLsbD (i + 1) = ((obscure b).getLsbD i ^^ b.getLsbD (i + 1)) := by
  have h : ((obscure b).getLsbD (i + 1) ^^ (obscure b).getLsbD i) = b.getLsbD (i + 1) := by
    conv_rhs => rw [← unobscure_obscure b]
    rw [unobscure, BitVec.getLsbD_xor, BitVec.getLsbD_shiftLeft]
    simp [hi]
  rw [← h, Bool.xor_left_comm, Bool.xor_self, Bool.xor_false]

/-- The closed form of R92, bit by bit from the lowest. -/
theorem obscure_getLsbD (b : Byte) (i : Nat) (hi : i < 8) :
    (obscure b).getLsbD i = (List.range (i + 1)).foldl (fun p k => p ^^ b.getLsbD k) false := by
  induction i with
  | zero => rw [obscure_getLsbD_zero]; exact (Bool.false_xor _).symm
  | succ i ih =>
    rw [obscure_getLsbD_succ b hi, ih (by omega), List.range_succ (n := i + 1), List.foldl_append, List.foldl_cons,
      List.foldl_nil]

theorem exec_obscure_of_live (b : Byte) {s : State} (hl : s.refused = none) :
    exec (.obscure b) s = .next { s with opResult := .byte (obscure b) } := whenLive_of_live hl

/-- Settles O28: the step of a live state, and the closed form. -/
theorem obscureReturnsThePrefixParities : Obligations.ObscureReturnsThePrefixParities :=
  fun b _ hl => ⟨obscure b, exec_obscure_of_live b hl, obscure_getLsbD b⟩

/-- Settles O29: linearity, bijectivity and the closed form all follow from the inverse. -/
theorem obscureIsALinearBijection : Obligations.ObscureIsALinearBijection :=
  ⟨obscure_getLsbD, obscure_xorLinear, obscure_bijective, fun b => (unobscure_obscure b).symm⟩

/-! ## MIX -/

/-- Every stage of the body that R91 gives is linear, for any two constants. -/
theorem mixBody_xorLinear (k1 k2 : Byte) : XorLinear (mixBody k1 k2) := by
  have hstage1 := XorLinear.id.xorWhen .id 7 k1
  have hmiddle := (hstage1.xor (hstage1.ushiftRight 1)).xorWhen hstage1 0 k2
  exact (hstage1.xorWhen hmiddle 0 k2).xor (hmiddle.ushiftRight 1)

/-- The images of the bits 0 to 7 under MIX, as R93 lists them (PRESUMED with the body of R91, log entry 3). -/
def mixImages : List Byte := [0x2E, 0x5C, 0x07, 0x0E, 0x1C, 0x38, 0x70, 0x35]

theorem mix_twoPow : ∀ i < 8, mix ctx (BitVec.twoPow 8 i) = mixImages.getD i 0 := by decide

/-- MIX adds up the images of the bits that are set (R93). -/
theorem mix_eq_foldl (b : Byte) :
    mix ctx b = (List.range 8).foldl (fun a i => if b.getLsbD i then a ^^^ mixImages.getD i 0 else a) 0 := by
  rw [XorLinear.eq_foldl (f := mix ctx) (mixBody_xorLinear _ _)]
  refine List.foldl_ext _ _ _ fun a i hi => ?_
  rw [mix_twoPow i (List.mem_range.mp hi)]

theorem exec_mix_of_live (b : Byte) {s : State} (hl : s.refused = none) :
    exec (.mix b) s = .next { s with opResult := .byte (mix ctx b) } := whenLive_of_live hl

/-- Settles O30: the step of a live state, whose byte is the exclusive OR of the images. -/
theorem mixReturnsItsByte : Obligations.MixReturnsItsByte := by
  intro b s hl
  rw [exec_mix_of_live b hl, mix_eq_foldl]
  rfl

end Sys2Proof.Machine
end

section
/-! PROOFS. The frame builder: the bytes and the checksums a build leaves, and the checks of a receiver (R100 to R106). -/

namespace Sys2Proof.Machine

/-! ## The indices of T -/

/-- T is the indices 1 to count, index 3 only when the marker is transformed (R101). -/
theorem mem_transformIndices {c : Config} {count : Nat} {i : Fin 10} :
    i ∈ transformIndices c count ↔ 1 ≤ i.val ∧ i.val ≤ count ∧ (i.val ≠ 3 ∨ c.markerInTransform = true) := by
  have hmem : i ∈ ([1, 2, 3, 4, 5, 6, 7, 8, 9] : List (Fin 10)) ↔ 1 ≤ i.val := by
    revert i
    decide
  rw [transformIndices, List.mem_filter, hmem]
  simp

/-- T names no byte twice. -/
theorem transformIndices_nodup (c : Config) (count : Nat) : (transformIndices c count).Nodup :=
  List.Nodup.filter _ (by decide)

/-! ## The loop -/

theorem transformByte_frm (c : Config) (b : Build) (i j : Fin 10) :
    (transformByte c b i).frm[j] = if i = j then obscure b.frm[j] else b.frm[j] := by
  by_cases h : i = j
  · subst h; simp [transformByte]
  · have hval : i.val ≠ j.val := fun hv => h (Fin.ext hv)
    simp [transformByte, h, hval]

/-- A byte the loop has not reached yet reads as before. -/
theorem transformByte_frm_of_ne {c : Config} {b : Build} {i j : Fin 10} (h : i ≠ j) :
    (transformByte c b i).frm[j] = b.frm[j] := by
  rw [transformByte_frm, if_neg h]

/-- The loop obscures the bytes it passes over and leaves the others (R100). -/
theorem foldl_transformByte_frm (c : Config) {l : List (Fin 10)} (hl : l.Nodup) (b : Build) (j : Fin 10) :
    (l.foldl (transformByte c) b).frm[j] = if j ∈ l then obscure b.frm[j] else b.frm[j] := by
  induction l generalizing b with
  | nil => simp
  | cons i l ih =>
    obtain ⟨hi, hl⟩ := List.nodup_cons.mp hl
    rw [List.foldl_cons, ih hl]
    by_cases h : i = j
    · subst h
      rw [if_neg hi, if_pos List.mem_cons_self, transformByte_frm, if_pos rfl]
    · have hmem : j ∈ i :: l ↔ j ∈ l := by simp [Ne.symm h]
      simp only [transformByte_frm_of_ne h, hmem]

/-- A pass over another byte does not change what an accumulation over the bytes `l` takes in. -/
theorem foldl_obscure_transformByte {c : Config} {b : Build} {i : Fin 10} {l : List (Fin 10)} (hi : i ∉ l)
    (g : Byte → Byte → Byte) (a : Byte) :
    l.foldl (fun a j => g a (obscure (transformByte c b i).frm[j])) a = l.foldl (fun a j => g a (obscure b.frm[j])) a := by
  refine List.foldl_ext _ _ _ fun a j hj => ?_
  rw [transformByte_frm_of_ne (ne_of_mem_of_not_mem hj hi).symm]

/-- The loop accumulates the obscured bytes, each as it was before the loop, into both checksums (R102). -/
theorem foldl_transformByte_checksums (c : Config) {l : List (Fin 10)} (hl : l.Nodup) (b : Build) :
    (l.foldl (transformByte c) b).cs1 = l.foldl (fun a i => a ^^^ obscure b.frm[i]) b.cs1 ∧
      (l.foldl (transformByte c) b).cs2 = l.foldl (fun a i => mix c (a ^^^ obscure b.frm[i])) b.cs2 := by
  induction l generalizing b with
  | nil => exact ⟨rfl, rfl⟩
  | cons i l ih =>
    obtain ⟨hi, hl⟩ := List.nodup_cons.mp hl
    obtain ⟨h1, h2⟩ := ih hl (transformByte c b i)
    rw [foldl_obscure_transformByte hi fun a o => a ^^^ o] at h1
    rw [foldl_obscure_transformByte hi fun a o => mix c (a ^^^ o)] at h2
    exact ⟨h1, h2⟩

/-! ## The build -/

/-- What a build of `frm` with the count `count` leaves (R100 to R103): the bytes of T obscured, their two checksums, the
bytes made of them after byte `count`, every other byte as it was, and FLEN. -/
structure FrameBuilt (c : Config) (count : Nat) (frm : Vector Byte 10) (f : Framed) : Prop where
  fits : count + 2 < 10
  transformed : ∀ i ∈ transformIndices c count, f.build.frm[i] = obscure frm[i]
  untouched : ∀ i ∉ transformIndices c count, i.val ≠ count + 1 → i.val ≠ count + 2 → f.build.frm[i] = frm[i]
  cs1 : f.build.cs1 = (transformIndices c count).foldl (fun a i => a ^^^ obscure frm[i]) 0
  cs2 : f.build.cs2 = (transformIndices c count).foldl (fun a i => mix c (a ^^^ obscure frm[i])) 0
  firstByte : ∀ i : Fin 10, i.val = count + 1 → f.build.frm[i] = f.build.cs1
  secondByte : ∀ i : Fin 10, i.val = count + 2 → f.build.frm[i] = mix c (f.build.cs1 ^^^ f.build.cs2)
  flen : f.flen = BitVec.ofNat 6 (count + 3)

/-- Whatever the configuration, a build that answers leaves such a frame. -/
theorem buildFrame_built {c : Config} {frm : Vector Byte 10} {f : Framed} (h : buildFrame c frm = .next f) :
    FrameBuilt c (countField frm[2]) frm f := by
  obtain ⟨hfits, -, hcs1, hcs2, hfrm, hflen⟩ := buildFrame_eq_next h
  have hnodup := transformIndices_nodup c (countField frm[2])
  obtain ⟨hloop1, hloop2⟩ := foldl_transformByte_checksums c hnodup ⟨frm, 0#8, 0#8⟩
  have hbody (i : Fin 10) (h1 : i.val ≠ countField frm[2] + 1) (h2 : i.val ≠ countField frm[2] + 2) :
      f.build.frm[i] = if i ∈ transformIndices c (countField frm[2]) then obscure frm[i] else frm[i] := by
    rw [hfrm, Fin.getElem_fin, Vector.getElem_set_ne _ _ h2.symm, Vector.getElem_set_ne _ _ h1.symm]
    exact foldl_transformByte_frm c hnodup _ i
  refine ⟨hfits, fun i hi => ?_, fun i hi h1 h2 => ?_, hcs1.trans hloop1, hcs2.trans hloop2, fun i hi => ?_,
    fun i hi => ?_, hflen⟩
  · have hle := (mem_transformIndices.mp hi).2.1
    rw [hbody i (by omega) (by omega), if_pos hi]
  · rw [hbody i h1 h2, if_neg hi]
  · simp only [hfrm, Fin.getElem_fin, hi]
    rw [Vector.getElem_set_ne _ _ (by omega), Vector.getElem_set_self]
  · simp only [hfrm, Fin.getElem_fin, hi]
    rw [Vector.getElem_set_self]

/-- Accumulating the built bytes of T takes in the obscured bytes that the build took in. -/
theorem FrameBuilt.foldl_built {c : Config} {count : Nat} {frm : Vector Byte 10} {f : Framed}
    (h : FrameBuilt c count frm f) (g : Byte → Byte → Byte) (a : Byte) :
    (transformIndices c count).foldl (fun a i => g a f.build.frm[i]) a =
      (transformIndices c count).foldl (fun a i => g a (obscure frm[i])) a :=
  List.foldl_ext _ _ _ fun _ i hi => by rw [h.transformed i hi]

/-- Settles O33: replaying either accumulation over the built bytes gives the checksum the build took from it. -/
theorem framesPassTheReceiversChecks : Obligations.FramesPassTheReceiversChecks := by
  intro c frm f h
  have hbuilt := buildFrame_built h
  have hfits := hbuilt.fits
  have hfirst := hbuilt.firstByte ⟨countField frm[2] + 1, by omega⟩ rfl
  have hsecond := hbuilt.secondByte ⟨countField frm[2] + 2, hfits⟩ rfl
  rw [Fin.getElem_fin] at hfirst hsecond
  refine ⟨by omega, hfits, ?_, ?_, ?_⟩
  · rw [hbuilt.foldl_built (fun a b => a ^^^ b), ← hbuilt.cs1, hfirst, BitVec.xor_self]
  · rw [hbuilt.foldl_built (fun a b => mix c (a ^^^ b)), ← hbuilt.cs2, hfirst, hsecond]
  · rw [hbuilt.flen, BitVec.toNat_ofNat]
    omega

/-! ## FRAME_BUILD as a step of its own -/

theorem exec_frameBuild_of_live {s : State} (hl : s.refused = none) :
    exec .frameBuild s = andThen (buildFrame ctx s.frm) fun f =>
      .next { s with frm := f.build.frm, flen := f.flen, cs1 := f.build.cs1, cs2 := f.build.cs2 } := whenLive_of_live hl

/-- On this hardware byte 3 is not transformed (R101, R5). -/
theorem mem_transformIndices_ctx {count : Nat} {i : Fin 10} :
    i ∈ transformIndices ctx count ↔ 1 ≤ i.val ∧ i.val ≤ count ∧ i.val ≠ 3 := by
  simp [mem_transformIndices, ctx]

/-- Settles O32: a count of at most 7 completes with the frame `FrameBuilt` describes; a larger one is refused. -/
theorem frameBuildObscuresAndAppendsTheChecksums : Obligations.FrameBuildObscuresAndAppendsTheChecksums := by
  intro s hl
  rw [← countField_eq]
  refine ⟨fun hcount => ?_, fun hcount => ?_⟩
  · obtain ⟨f, hf⟩ := buildFrame_completes hcount
    have hbuilt := buildFrame_built hf
    refine ⟨f.build.frm, f.build.cs1, f.build.cs2, ?_, fun i h1 hle h3 => ?_, fun i hi => ?_, hbuilt.firstByte,
      hbuilt.secondByte, hbuilt.cs1, hbuilt.cs2⟩
    · rw [exec_frameBuild_of_live hl, hf, andThen_next, hbuilt.flen]
    · exact hbuilt.transformed i (mem_transformIndices_ctx.mpr ⟨h1, hle, h3⟩)
    · refine hbuilt.untouched i (fun hmem => ?_) (by omega) (by omega)
      obtain ⟨h1, hle, h3⟩ := mem_transformIndices_ctx.mp hmem
      omega
  · rw [exec_frameBuild_of_live hl, buildFrame_over_capacity hcount, andThen_refused]

end Sys2Proof.Machine
end

section
/-! PROOFS. In a sound state every tick and every legal command completes (R53, R105, R183). -/

namespace Sys2Proof.Machine

/-- In a sound state a tick completes: nothing while idle, else one of the ticks left (R165). -/
theorem seqTick_completes {s : State} (hi : Inv s) : ∃ t, seqTick ctx s = .next t := by
  by_cases hp : s.phase = .idle
  · exact ⟨s, by rw [seqTick, hp]⟩
  · obtain ⟨t, htick, -⟩ := seqTick_ticksLeft hi hp
    exact ⟨t, htick⟩

/-- CONFIG of a legal channel completes: the busy error, or the identity (R162). -/
theorem execConfig_completes {chan : BitVec 3} (rid : BitVec 5) {s : State} (hl : s.refused = none)
    (hchan : chanLegal chan = true) : ∃ t, execConfig chan rid s = .next t := by
  rw [execConfig, whenLive_of_live hl]
  split_ifs with hbusy hillegal
  · exact ⟨_, rfl⟩
  · simp [hchan] at hillegal
  · exact ⟨_, rfl⟩

/-- SEND of legal operands completes in a sound state: one of its two command errors, or the payload, whose count of 7 the
frame buffer holds, and repetition 0 (R163). -/
theorem execSend_completes {temp : BitVec 11} {hum : BitVec 7} (batt : Bool) {s : State} (hhost : HostSound s)
    (htemp : tempLegal temp = true) (hhum : humLegal hum = true) : ∃ t, execSend temp hum batt s = .next t := by
  rw [execSend, whenLive_of_live hhost.live]
  split_ifs with hbusy hcfg
  · exact ⟨_, rfl⟩
  · exact ⟨_, rfl⟩
  · have hchan := hhost.cfgLegal (by simpa using hcfg)
    obtain ⟨u, hpay⟩ := payloadEncode_completes batt htemp hhum hchan
    obtain ⟨t, hrep⟩ := repeatStart_completes (r := 0#2) (by decide) (payloadEncode_layout hpay).count.le
    exact ⟨t, andThen_eq_next.mpr ⟨u, hpay, hrep⟩⟩

/-- A legal command word completes in a sound state: a command error, or its command (R160). -/
theorem onCommand_completes {w : Word} {s : State} (hhost : HostSound s) (hw : legalCommand w = true) :
    ∃ t, onCommand w s = .next t := by
  unfold onCommand
  split
  · exact ⟨_, rfl⟩
  · exact ⟨_, rfl⟩
  · rename_i i hd
    have hcmd := isCommand_of_decode hd
    rw [legalCommand, hd] at hw
    cases i with
    | nop => exact ⟨_, whenLive_of_live hhost.live⟩
    | clrerr => exact ⟨_, whenLive_of_live hhost.live⟩
    | config chan rid => exact execConfig_completes rid hhost.live hw
    | send temp hum batt =>
      obtain ⟨htemp, hhum⟩ := Bool.and_eq_true_iff.mp hw
      exact execSend_completes batt hhost htemp hhum
    | _ => cases hcmd

/-- A legal edge completes in a sound state: a reset, or the tick and then the command on the sound state it leaves (R187). -/
theorem onEdge_completes {e : Edge} {s : State} (hi : Inv s) (he : legalEdge e = true) : ∃ t, onEdge e s = .next t := by
  cases hr : e.rst with
  | true => exact ⟨_, onEdge_rst hr⟩
  | false =>
    obtain ⟨u, htick, hu⟩ : ∃ u, (if e.usTick then onTick s else .next s) = .next u ∧ Inv u := by
      split
      · obtain ⟨u, htick⟩ := seqTick_completes hi
        exact ⟨u, onTick_eq_next.mpr ⟨hi.live, htick⟩, seqTick_inv hi htick⟩
      · exact ⟨s, rfl, hi⟩
    simp only [onEdge, hr, Bool.false_eq_true, if_false, htick, andThen_next]
    split
    · rename_i hv
      exact onCommand_completes hu.host (by simpa [legalEdge, hr, hv] using he)
    · exact ⟨u, rfl⟩

/-- Settles O19: with no edge scheduled the state stays, and a legal edge completes. -/
theorem legalInputsNeverStopTheMachine : Obligations.LegalInputsNeverStopTheMachine := by
  intro s hi hlegal
  cases hin : s.inputs with
  | nil => exact ⟨s, step_of_nil hi.live hin⟩
  | cons e es =>
    rw [nextEdgeLegal, hin] at hlegal
    rw [step_of_cons hi.live hin]
    exact onEdge_completes (setInputs_inv hi es) hlegal

end Sys2Proof.Machine
end

section
/-! PROOFS. The repeater: the frames of the repetitions, the end of a gap, and that no command disturbs a transmission
(R110 to R115). -/

namespace Sys2Proof.Machine

/-! ## No command stops a transmission (R114) -/

/-- CONFIG while busy is the busy error, whatever its operands (R162, R182). -/
theorem execConfig_of_busy (chan : BitVec 3) (rid : BitVec 5) {s : State} (hl : s.refused = none)
    (hbusy : s.phase ≠ .idle) : execConfig chan rid s = .next (raiseCmdError .busy s) := by
  rw [execConfig, whenLive_of_live hl, if_pos (busy_eq_true.mpr hbusy)]

/-- SEND while busy is the busy error, whatever its operands (R163, R182). -/
theorem execSend_of_busy (temp : BitVec 11) (hum : BitVec 7) (batt : Bool) {s : State} (hl : s.refused = none)
    (hbusy : s.phase ≠ .idle) : execSend temp hum batt s = .next (raiseCmdError .busy s) := by
  rw [execSend, whenLive_of_live hl, if_pos (busy_eq_true.mpr hbusy)]

/-- A command word in a busy state completes: a command error, NOP, or CLRERR (R114, R160). -/
theorem onCommand_completes_of_busy (w : Word) {s : State} (hl : s.refused = none) (hbusy : s.phase ≠ .idle) :
    ∃ t, onCommand w s = .next t := by
  unfold onCommand
  split
  · exact ⟨_, rfl⟩
  · exact ⟨_, rfl⟩
  · rename_i i hd
    have hcmd := isCommand_of_decode hd
    cases i with
    | nop => exact ⟨_, whenLive_of_live hl⟩
    | clrerr => exact ⟨_, whenLive_of_live hl⟩
    | config chan rid => exact ⟨_, execConfig_of_busy chan rid hl hbusy⟩
    | send temp hum batt => exact ⟨_, execSend_of_busy temp hum batt hl hbusy⟩
    | _ => cases hcmd

/-- An effect of a command on a busy state is one on the error flag and its cause. -/
theorem CommandEffect.error_only_of_busy {w : Word} {s t : State} (h : CommandEffect w s t) (hbusy : s.phase ≠ .idle) :
    ∃ flag cause, t = s.setError flag cause := by
  cases h with
  | nothing hd => exact ⟨s.cmdErr, s.errCause, rfl⟩
  | error cause => exact ⟨_, _, rfl⟩
  | clear hd => exact ⟨_, _, rfl⟩
  | configure chan rid hd hidle hchan => exact absurd hidle hbusy
  | start temp hum batt u t hd hidle hcfg hpay hrep => exact absurd hidle hbusy

/-- Settles O25: the word completes, and the effects that need an idle state are excluded. -/
theorem noCommandStopsATransmission : Obligations.NoCommandStopsATransmission := by
  intro s w hl hbusy
  obtain ⟨t, ht⟩ := onCommand_completes_of_busy w hl hbusy
  obtain ⟨flag, cause, rfl⟩ := (onCommand_effect ht).error_only_of_busy hbusy
  exact ⟨flag, cause, ht⟩

/-! ## The frames of the repetitions (R111, R115) -/

/-- The frame of another marker is the same frame with that marker in byte 3 (R101, R115). -/
theorem framedPayload_frm_set (raw : Vector Byte 8) (m m' : Byte) :
    (framedPayload raw m').build.frm = (framedPayload raw m).build.frm.set 3 m' := rfl

/-- REPEAT_START, if it answers, on seven counted bytes: FRM is the payload's frame with the marker of `r` (R111). -/
theorem exec_repeatStart_frm {r : BitVec 2} {s t : State} (hcount : countField s.raw[2] = 7)
    (h : exec (.repeatStart r) s = .next t) :
    ∃ m, markerOf ctx r = some m ∧ t.frm = (framedPayload s.raw m).build.frm := by
  obtain ⟨m, f, hm, hf, rfl⟩ := repeatStart_eq_next (whenLive_eq_next.mp h).2
  rw [buildFrame_loadFrame m s.frm hcount] at hf
  cases hf
  exact ⟨m, hm, rfl⟩

/-- Settles O36: both frames are the payload's, and a marker is written to byte 3 alone. -/
theorem framesDifferOnlyInTheMarker : Obligations.FramesDifferOnlyInTheMarker := by
  intro s t u r q hcount ht hu
  obtain ⟨m, hm, htfrm⟩ := exec_repeatStart_frm hcount ht
  obtain ⟨m', -, hufrm⟩ := exec_repeatStart_frm hcount hu
  rw [framedPayload_frm_set _ m m', ← htfrm] at hufrm
  refine ⟨fun i hi => ?_, ?_⟩
  · rw [hufrm, Fin.getElem_fin, Fin.getElem_fin, Vector.getElem_set_ne _ _ hi.symm]
  · rw [htfrm]
    exact hm.symm

/-- The table of R110 as `P_MARKERS` of this hardware. -/
theorem markerOf_of_mem {r : BitVec 2} {m : Byte}
    (h : (r, m) ∈ ([(0, 0x5E), (1, 0x9E), (2, 0xDE)] : List (BitVec 2 × Byte))) : markerOf ctx r = some m := by
  simp only [List.mem_cons, Prod.mk.injEq, List.not_mem_nil, or_false] at h
  rcases h with ⟨rfl, rfl⟩ | ⟨rfl, rfl⟩ | ⟨rfl, rfl⟩ <;> rfl

/-- REPEAT_START of a repetition with a marker: FRAME_BUILD on the marked copy of RAW, then slot 0 of byte 0 (R111). -/
theorem exec_repeatStart_of_live {r : BitVec 2} {m : Byte} {s : State} (hl : s.refused = none)
    (hm : markerOf ctx r = some m) :
    exec (.repeatStart r) s = andThen (exec .frameBuild (s.setFrm (loadFrame s.raw m s.frm))) fun t =>
      .next { t with rep := r, bidx := 0, phase := .slot, slot := 0, rem := 500, line := false } := by
  have henter (t : State) : enterSlot ctx 0#5 (t.startRep r) =
      .next { t with rep := r, bidx := 0, phase := .slot, slot := 0, rem := 500, line := false } := by
    rw [enterSlot_of_ne_two (by decide), holdTicks_halfBit]
    rfl
  calc exec (.repeatStart r) s
      = repeatStart ctx r s := whenLive_of_live hl
    _ = andThen (frameBuild ctx (s.setFrm (loadFrame s.raw m s.frm))) fun t => enterSlot ctx 0#5 (t.startRep r) := by
        rw [repeatStart, hm]
    _ = andThen (exec .frameBuild (s.setFrm (loadFrame s.raw m s.frm))) fun t => enterSlot ctx 0#5 (t.startRep r) :=
        congrArg (andThen · _) (whenLive_of_live (s := s.setFrm (loadFrame s.raw m s.frm)) hl).symm
    _ = _ := by simp only [henter]

/-- Settles O35: R110 gives the marker, and REPEAT_START is its three parts in order. -/
theorem repeatStartRunsFrameBuildOnTheMarkedCopy : Obligations.RepeatStartRunsFrameBuildOnTheMarkedCopy :=
  fun _ _ _ hl hmem => exec_repeatStart_of_live hl (markerOf_of_mem hmem)

/-- Settles O34: with seven counted bytes FRAME_BUILD on the marked copy answers the payload's frame. -/
theorem repeatStartBuildsTheFrameOfItsMarker : Obligations.RepeatStartBuildsTheFrameOfItsMarker := by
  intro s r m hl hmem hcount
  rw [← countField_eq] at hcount
  have hbuild : buildFrame ctx (s.setFrm (loadFrame s.raw m s.frm)).frm = .next (framedPayload s.raw m) :=
    buildFrame_loadFrame m s.frm hcount
  rw [exec_repeatStart_of_live hl (markerOf_of_mem hmem),
    exec_frameBuild_of_live (s := s.setFrm (loadFrame s.raw m s.frm)) hl, hbuild]
  rfl

/-! ## The end of a gap (R113) -/

/-- The tick that brings REM to 0 in a gap runs what follows the gap (R165). -/
theorem seqTick_of_gap_end {c : Config} {s : State} (hp : s.phase = .gap) (hr : s.rem = 1#16) :
    seqTick c s = endOfGap c (s.setRem 0#16) := by
  have hzero : s.rem - 1#16 = 0#16 := by rw [hr]; rfl
  rcases seqTick_cases c s with ⟨hidle, -⟩ | ⟨-, hrem, -⟩ | ⟨hslot, -⟩ | ⟨-, -, htick⟩
  · rw [hp] at hidle; cases hidle
  · exact absurd hzero hrem
  · rw [hp] at hslot; cases hslot
  · exact htick

/-- Before the last repetition a gap is followed by the next one (R113). -/
theorem endOfGap_of_lt {s : State} (h : s.rep.toNat < 2) : endOfGap ctx s = repeatStart ctx (s.rep + 1#2) s :=
  if_pos (Nat.succ_lt_succ h)

/-- The last repetition's gap ends the transmission (R113). -/
theorem endOfGap_of_last {s : State} (h : s.rep = 2#2) : endOfGap ctx s = .next s.setIdle := by
  have hlast : ¬s.rep.toNat + 1 < ctx.repeats := by rw [h]; decide
  rw [endOfGap, if_neg hlast]

/-- Settles O46: the tick ends the gap, and REP decides what follows. -/
theorem tickEndingAGapStartsTheNextFrameOrEnds : Obligations.TickEndingAGapStartsTheNextFrameOrEnds := by
  intro s hl hp hr
  have htick : exec .seqTick s = endOfGap ctx (s.setRem 0#16) := (onTick_of_live hl).trans (seqTick_of_gap_end hp hr)
  refine ⟨fun hrep => ?_, fun hrep => ⟨?_, rfl⟩⟩
  · rw [htick, endOfGap_of_lt (s := s.setRem 0#16) hrep]
    exact (whenLive_of_live (s := s.setRem 0#16) hl).symm
  · exact htick.trans (endOfGap_of_last (s := s.setRem 0#16) hrep)

end Sys2Proof.Machine
end

section
/-! PROOFS. The levels of a byte, and what a frame and a SEND take on the line (R123 to R128, R209). -/

namespace Sys2Proof.Machine

/-! ## The levels of a byte (R123, R127) -/

theorem slotLevel_bit (b : Byte) (k : Nat) : slotLevel b (2 + 2 * k) = b.getLsbD k := by
  have h0 : 2 + 2 * k ≠ 0 := by omega
  have h1 : 2 + 2 * k ≠ 1 := by omega
  have heven : (2 + 2 * k) % 2 = 0 := by omega
  have hidx : (2 + 2 * k - 2) / 2 = k := by omega
  rw [slotLevel, if_neg h0, if_neg h1, if_pos heven, hidx]

theorem slotLevel_complement (b : Byte) (k : Nat) : slotLevel b (3 + 2 * k) = !b.getLsbD k := by
  have h0 : 3 + 2 * k ≠ 0 := by omega
  have h1 : 3 + 2 * k ≠ 1 := by omega
  have hodd : ¬(3 + 2 * k) % 2 = 0 := by omega
  have hidx : (3 + 2 * k - 2) / 2 = k := by omega
  rw [slotLevel, if_neg h0, if_neg h1, if_neg hodd, hidx]

/-- Settles O39: a pair ends with the complement of its bit, and the next pair begins with the next bit. -/
theorem everyDataBitHasItsTransition : Obligations.EveryDataBitHasItsTransition := by
  refine fun b => ⟨fun k _ => ⟨slotLevel_bit b k, slotLevel_complement b k⟩, fun k _ => ?_, rfl, rfl⟩
  rw [slotLevel_complement, show 4 + 2 * k = 2 + 2 * (k + 1) by omega, slotLevel_bit]
  exact Bool.not_not_eq

/-! ## The last byte of a frame (R209) -/

/-- An exclusive OR with a constant that does not hold bit `i` leaves bit `i`, whether it happens or not. -/
theorem getLsbD_xorWhen {k : Byte} {i : Nat} (hk : k.getLsbD i = false) (p : Bool) (x : Byte) :
    (if p then x ^^^ k else x).getLsbD i = x.getLsbD i := by
  cases p <;> simp [hk]

/-- The body of R91 clears bit 7 when its first constant holds that bit and the second does not: the first stage clears it,
and neither the second constant nor the shift of the last stage sets it again. -/
theorem mixBody_getLsbD_seven {k1 k2 : Byte} (h1 : k1.getLsbD 7 = true) (h2 : k2.getLsbD 7 = false) (b : Byte) :
    (mixBody k1 k2 b).getLsbD 7 = false := by
  have hfirst : (if b.getLsbD 7 then b ^^^ k1 else b).getLsbD 7 = false := by
    split
    · rename_i hb
      rw [BitVec.getLsbD_xor, hb, h1]; rfl
    · rename_i hb
      exact eq_false_of_ne_true hb
  simp only [mixBody, BitVec.getLsbD_xor, getLsbD_xorWhen h2, hfirst, BitVec.getLsbD_ushiftRight]
  rw [Bool.false_xor, BitVec.getLsbD_of_ge _ _ (by decide)]

/-- No byte that MIX returns holds bit 7 (PRESUMED with the body of R91, log entry 3). -/
theorem mix_getLsbD_seven (b : Byte) : (mix ctx b).getLsbD 7 = false :=
  mixBody_getLsbD_seven (k1 := 0x95#8) (k2 := 0x5F#8) rfl rfl b

/-- A frame of a sound state ends with a byte that MIX returned (R102, R111). -/
theorem FrameOfPayload.last {s : State} (h : FrameOfPayload s) (hpay : PayloadLayout s) : ∃ x, s.frm[9] = mix ctx x := by
  obtain ⟨m, -, hbuild⟩ := h
  rw [buildFrame_loadFrame m s.frm hpay.count, Host.Outcome.next.injEq] at hbuild
  have hfrm : s.frm = (framedPayload s.raw m).build.frm := (congrArg (·.build.frm) hbuild).symm
  exact ⟨payloadCs1 s.raw ^^^ payloadCs2 s.raw, by rw [hfrm]; rfl⟩

/-- Settles O40: slot 17 shows the complement of bit 7, which a byte from MIX does not have. -/
theorem lastHalfSlotOfAFrameIsHigh : Obligations.LastHalfSlotOfAFrameIsHigh := by
  intro s hi hp hbidx hslot
  have hbusy : s.phase ≠ .idle := by simp [hp]
  obtain ⟨x, hlast⟩ := (hi.busyFrame hbusy).last (hi.busyPayload hbusy)
  obtain ⟨b, hread, hlevel, -⟩ := (hi.slotSound hp).level
  have hb : s.frm[9] = b := by
    rw [hbidx] at hread
    exact Option.some.inj hread
  calc s.line
      = slotLevel b (3 + 2 * 7) := by rw [hlevel, hslot]; rfl
    _ = !(mix ctx x).getLsbD 7 := by rw [slotLevel_complement, ← hb, hlast]
    _ = true := by rw [mix_getLsbD_seven]; rfl

/-! ## Segments and ticks of a byte, a frame and a SEND (R128) -/

theorem byteTrace_length (c : Config) (b : Byte) : (byteTrace c b).length = 18 := by
  rw [byteTrace, List.length_map, List.length_range]

theorem totalTicks_byteTrace (b : Byte) : totalTicks (byteTrace ctx b) = 9000 := by
  simp [totalTicks, byteTrace, Function.comp_def, ctx]

theorem flatMap_byteTrace_length (c : Config) (bytes : List Byte) :
    (bytes.flatMap (byteTrace c)).length = 18 * bytes.length := by
  induction bytes with
  | nil => rfl
  | cons b bytes ih => rw [List.flatMap_cons, List.length_append, byteTrace_length, ih, List.length_cons]; omega

theorem totalTicks_flatMap_byteTrace (bytes : List Byte) :
    totalTicks (bytes.flatMap (byteTrace ctx)) = 9000 * bytes.length := by
  induction bytes with
  | nil => rfl
  | cons b bytes ih => rw [List.flatMap_cons, totalTicks_append, totalTicks_byteTrace, ih, List.length_cons]; omega

/-- A frame with its gap: a segment and 30000 ticks beside those of its bytes (R112). -/
theorem frameTrace_length (c : Config) (bytes : List Byte) : (frameTrace c bytes).length = 18 * bytes.length + 1 := by
  rw [frameTrace, List.length_append, flatMap_byteTrace_length, List.length_singleton]

theorem totalTicks_frameTrace (bytes : List Byte) : totalTicks (frameTrace ctx bytes) = 9000 * bytes.length + 30000 := by
  rw [frameTrace, totalTicks_append, totalTicks_flatMap_byteTrace]
  rfl

/-- The frame of a payload of seven counted bytes has ten bytes (R103). -/
theorem frameBytes_of_seven {raw : Vector Byte 8} (m : Byte) (h : countField raw[2] = 7) :
    ∃ bytes, frameBytes ctx raw m = .next bytes ∧ bytes.length = 10 := by
  rw [frameBytes, buildFrame_loadFrame m _ h, andThen_next]
  exact ⟨_, rfl, rfl⟩

/-- Every repetition takes 181 segments and 120000 ticks, by induction on the markers of the repetitions. -/
theorem tracesOf_of_seven {raw : Vector Byte 8} (h : countField raw[2] = 7) (ms : List Byte) :
    ∃ l, tracesOf ctx raw ms = .next l ∧ totalTicks l = 120000 * ms.length ∧ l.length = 181 * ms.length := by
  induction ms with
  | nil => exact ⟨[], rfl, rfl, rfl⟩
  | cons m ms ih =>
    obtain ⟨bytes, hbytes, hten⟩ := frameBytes_of_seven m h
    obtain ⟨rest, hrest, hticks, hlength⟩ := ih
    refine ⟨frameTrace ctx bytes ++ rest, ?_, ?_, ?_⟩
    · rw [tracesOf, hbytes, andThen_next, hrest, andThen_next]
    · rw [totalTicks_append, totalTicks_frameTrace, hten, hticks, List.length_cons]; omega
    · rw [List.length_append, frameTrace_length, hten, hlength, List.length_cons]; omega

/-- Settles O48: the counts of a byte, of ten bytes, and of the three markers of this hardware. -/
theorem segmentCountsAndDurations : Obligations.SegmentCountsAndDurations := by
  refine ⟨fun b => ⟨byteTrace_length ctx b, totalTicks_byteTrace b⟩, fun raw m h => ?_, fun raw h => ?_⟩
  · obtain ⟨bytes, hbytes, hten⟩ := frameBytes_of_seven m h
    exact ⟨bytes, hbytes, hten, by rw [totalTicks_flatMap_byteTrace, hten], by rw [totalTicks_frameTrace, hten]⟩
  · exact tracesOf_of_seven h (ctx.markers.take ctx.repeats)

end Sys2Proof.Machine
end

section
/-! PROOFS. The line encoder: the slots of a byte, driven by BYTE_SERIALIZE and by the ticks of the sequencer (R120 to R124,
R165, R166). -/

namespace Sys2Proof.Machine

/-! ## The states of a byte's slots -/

/-- `s` in slot `k` of a byte `b` with `n` ticks left of its hold: LINE is the level of R123, and in a data slot W is the
working value of R121. `enterSlot_zero` and `enterSlot_afterSlot` tie it to ENTER_SLOT. -/
def State.inSlot (s : State) (b : Byte) (k : Nat) (n : BitVec 16) : State :=
  { s with
    phase := .slot, slot := BitVec.ofNat 5 k, rem := n, line := slotLevel b k
    w := if 2 ≤ k then workingValue b k else s.w }

/-- `s` with the hold of slot `k` of a byte `b` ended and the exit update of R121 made. -/
def State.afterSlot (s : State) (b : Byte) (k : Nat) : State := exitSlot (s.inSlot b k 0#16)

@[simp] theorem State.inSlot_setRem (s : State) (b : Byte) (k : Nat) (n m : BitVec 16) :
    (s.inSlot b k n).setRem m = s.inSlot b k m := rfl

/-- Slots 0 and 1 do not touch W; a data slot leaves the working value of the next one (R121). -/
theorem State.afterSlot_eq (s : State) (b : Byte) {k : Nat} (hk : k ≤ 17) :
    s.afterSlot b k = (s.inSlot b k 0#16).setW (if 2 ≤ k then workingValue b (k + 1) else s.w) := by
  have hslot : (s.inSlot b k 0#16).slot.toNat = k := Nat.mod_eq_of_lt (by omega)
  by_cases h2 : 2 ≤ k
  · have hw : (s.inSlot b k 0#16).w = workingValue b (s.inSlot b k 0#16).slot.toNat := by
      rw [hslot]; exact if_pos h2
    rw [State.afterSlot, exitSlot_eq, exitSlot_working (by omega) hw, hslot, if_pos h2]
  · rw [State.afterSlot, exitSlot, if_neg (by omega), if_neg h2, State.inSlot, if_neg h2]
    rfl

/-- After slot 17 the working value is shifted out. -/
theorem State.afterSlot_last (s : State) (b : Byte) :
    s.afterSlot b 17 = { s with phase := .slot, slot := 17, rem := 0, line := !b.getLsbD 7, w := 0 } := by
  have hw : workingValue b 18 = 0#8 := BitVec.ushiftRight_eq_zero (by decide)
  rw [State.afterSlot_eq s b le_rfl, if_pos (by decide), hw]
  rfl

theorem enterSlot_zero (s : State) (b : Byte) : enterSlot ctx 0#5 s = .next (s.inSlot b 0 500#16) := by
  rw [enterSlot_of_ne_two (by decide), holdTicks_halfBit]
  rfl

/-- Each slot of FRM[BIDX] but slot 0 is entered from the one before it (R166): slot 1 is high, slot 2 loads W, and a later
one shows the working value that the exit update left. -/
theorem enterSlot_afterSlot {s : State} {b : Byte} (hread : readFrm s s.bidx.toNat = some b) {k : Nat} (hk : k < 17) :
    enterSlot ctx (BitVec.ofNat 5 (k + 1)) (s.afterSlot b k) = .next (s.inSlot b (k + 1) 500#16) := by
  rw [State.afterSlot_eq s b (by omega)]
  have hb : s.bidx.toNat < 10 := readFrm_isSome.mp (Option.isSome_of_eq_some hread)
  obtain rfl | rfl | h2 : k = 0 ∨ k = 1 ∨ 2 ≤ k := by omega
  · rw [enterSlot_of_ne_two (by decide), holdTicks_halfBit]
    rfl
  · obtain rfl : s.frm[s.bidx.toNat] = b := Option.some.inj ((readFrm_of_lt hb).symm.trans hread)
    rw [enterSlot_of_lt (s := (s.inSlot _ 1 0#16).setW _) hb, holdTicks_halfBit]
    rfl
  · have h2' : 2 ≤ k + 1 := by omega
    have hlater (j : Nat) (hj : j ≤ 2) : BitVec.ofNat 5 (k + 1) ≠ BitVec.ofNat 5 j := by bv_omega
    rw [enterSlot_of_ne_two (hlater 2 le_rfl), holdTicks_halfBit, if_neg (hlater 0 (by decide)),
      if_neg (hlater 1 (by decide)), if_pos h2, State.setW_w, workingValue_level b h2', State.inSlot, State.inSlot,
      if_pos h2']
    rfl

/-! ## BYTE_SERIALIZE (R120) -/

/-- Driving the `n` slots after slot `k` adds their segments and leaves the last one ended, by induction on `n`. -/
theorem driveSlots_afterSlot {s : State} {b : Byte} (hread : readFrm s s.bidx.toNat = some b) (n : Nat) {k : Nat}
    (hk : k + n ≤ 17) (acc : List Segment) :
    driveSlots ctx ((List.range' (k + 1) n).map (BitVec.ofNat 5)) acc (s.afterSlot b k) =
      .next ((s.afterSlot b (k + n)).setResult
        (.segments (acc ++ (List.range' (k + 1) n).map fun j => ⟨slotLevel b j, 500⟩))) := by
  induction n generalizing k acc with
  | zero => simp [driveSlots]
  | succ n ih =>
    rw [List.range'_succ, List.map_cons, driveSlots, enterSlot_afterSlot hread (by omega), andThen_next,
      State.inSlot_setRem, ← State.afterSlot, ih (by omega), List.map_cons, List.append_assoc, Nat.succ_add_eq_add_succ]
    rfl

/-- BYTE_SERIALIZE drives the segments that R125 calls `BT(b)`, and ends where slot 17 ends (log entry 8). -/
theorem byteSerialize_eq {s : State} {b : Byte} (hread : readFrm s s.bidx.toNat = some b) :
    byteSerialize ctx s = .next ((s.afterSlot b 17).setResult (.segments (byteTrace ctx b))) := by
  have hslots : byteSlots = 0#5 :: (List.range' 1 17).map (BitVec.ofNat 5) := rfl
  rw [byteSerialize, hslots, driveSlots, enterSlot_zero s b, andThen_next, State.inSlot_setRem, ← State.afterSlot,
    driveSlots_afterSlot (k := 0) hread 17 le_rfl]
  rfl

/-- `BT(b)` as R120 and R123 list it: the start condition, then the pair of each bit. -/
theorem byteTrace_eq (b : Byte) :
    byteTrace ctx b = [⟨false, 500⟩, ⟨true, 500⟩] ++
      (List.range 8).flatMap fun k => [⟨b.getLsbD k, 500⟩, ⟨!b.getLsbD k, 500⟩] := rfl

/-- Settles O37: BYTE_SERIALIZE drives `BT(b)`, which begins with the start condition and lists the bits. -/
theorem byteSerializeDrivesEachBitAndItsComplement : Obligations.ByteSerializeDrivesEachBitAndItsComplement := by
  intro s b hl _ hread
  have hexec : exec .byteSerialize s = byteSerialize ctx s := whenLive_of_live hl
  rw [hexec, byteSerialize_eq hread, State.afterSlot_last, byteTrace_eq]
  rfl

/-! ## The same slots, tick by tick (R165) -/

theorem ticks_add (m n : Nat) (s : State) : ticks (m + n) s = andThen (ticks m s) (ticks n) := by
  induction m generalizing s with
  | zero => rw [Nat.zero_add, ticks, andThen_next]
  | succ m ih =>
    rw [Nat.add_right_comm, ticks, ticks, andThen_assoc]
    exact congrArg (andThen (onTick s)) (funext ih)

/-- The tick that brings REM to 0 in a slot runs what follows the slot (R165). -/
theorem seqTick_of_slot_end {c : Config} {s : State} (hp : s.phase = .slot) (hr : s.rem = 1#16) :
    seqTick c s = endOfSlot c (s.setRem 0#16) := by
  have hzero : s.rem - 1#16 = 0#16 := by rw [hr]; rfl
  rcases seqTick_cases c s with ⟨hidle, -⟩ | ⟨-, hrem, -⟩ | ⟨-, -, htick⟩ | ⟨hgap, -⟩
  · rw [hp] at hidle; cases hidle
  · exact absurd hzero hrem
  · exact htick
  · rw [hp] at hgap; cases hgap

/-- While more than one tick is left of a segment, a tick only counts REM down (R165). -/
theorem seqTick_of_hold {c : Config} {s : State} (hbusy : s.phase ≠ .idle) (hr : 1 < s.rem.toNat) :
    seqTick c s = .next (s.setRem (s.rem - 1#16)) := by
  have hnonzero : s.rem - 1#16 ≠ 0#16 := by bv_omega
  rcases seqTick_cases c s with ⟨hidle, -⟩ | ⟨-, -, htick⟩ | ⟨-, hrem, -⟩ | ⟨-, hrem, -⟩
  · exact absurd hidle hbusy
  · exact htick
  · exact absurd hrem hnonzero
  · exact absurd hrem hnonzero

/-- Fewer ticks than a segment has left only count REM down, by induction on their number. -/
theorem ticks_of_hold {s : State} (hl : s.refused = none) (hbusy : s.phase ≠ .idle) {n : Nat} (hn : n < s.rem.toNat) :
    ticks n s = .next (s.setRem (s.rem - BitVec.ofNat 16 n)) := by
  induction n generalizing s with
  | zero => rw [ticks, BitVec.sub_zero]; rfl
  | succ n ih =>
    have hrem : n < (s.setRem (s.rem - 1#16)).rem.toNat := by rw [State.setRem_rem]; bv_omega
    have hsub : s.rem - 1#16 - BitVec.ofNat 16 n = s.rem - BitVec.ofNat 16 (n + 1) := by bv_omega
    rw [ticks, onTick_of_live hl, seqTick_of_hold hbusy (by omega), andThen_next,
      ih (s := s.setRem (s.rem - 1#16)) hl hbusy hrem, State.setRem_rem, hsub]
    rfl

/-- The ticks that a slot has left run what follows it (R165). -/
theorem ticks_of_slot {s : State} (hl : s.refused = none) (hp : s.phase = .slot) (hr : 0 < s.rem.toNat) :
    ticks s.rem.toNat s = endOfSlot ctx (s.setRem 0#16) := by
  obtain ⟨n, hn⟩ : ∃ n, s.rem.toNat = n + 1 := ⟨s.rem.toNat - 1, by omega⟩
  have hone : s.rem - BitVec.ofNat 16 n = 1#16 := by bv_omega
  rw [hn, ticks_add, ticks_of_hold hl (by simp [hp]) (by omega), andThen_next, hone, ticks,
    onTick_of_live (s := s.setRem 1#16) hl, seqTick_of_slot_end (s := s.setRem 1#16) hp rfl]
  exact andThen_pure _

/-- The whole hold of a slot below 17 is followed by the next slot. -/
theorem ticks_inSlot_of_lt {s : State} {b : Byte} (hl : s.refused = none) (hread : readFrm s s.bidx.toNat = some b) {k : Nat}
    (hk : k < 17) : ticks 500 (s.inSlot b k 500#16) = .next (s.inSlot b (k + 1) 500#16) := by
  have hslot : (s.afterSlot b k).slot = BitVec.ofNat 5 k := (exitSlot_position (s.inSlot b k 0#16)).1
  have hlt : (s.afterSlot b k).slot.toNat < 17 := by rw [hslot]; bv_omega
  calc ticks 500 (s.inSlot b k 500#16)
      = endOfSlot ctx (s.inSlot b k 0#16) :=
        ticks_of_slot (s := s.inSlot b k 500#16) hl rfl (show 0 < (500#16).toNat by decide)
    _ = enterSlot ctx ((s.afterSlot b k).slot + 1#5) (s.afterSlot b k) := if_pos hlt
    _ = .next (s.inSlot b (k + 1) 500#16) := by rw [hslot, ← BitVec.ofNat_add, enterSlot_afterSlot hread hk]

/-- The whole hold of slot 17 is followed by the choice of R124. -/
theorem ticks_inSlot_last {s : State} (hl : s.refused = none) (b : Byte) :
    ticks 500 (s.inSlot b 17 500#16) = endOfByte ctx (s.afterSlot b 17) :=
  ticks_of_slot (s := s.inSlot b 17 500#16) hl rfl (show 0 < (500#16).toNat by decide)

/-- From slot 0 of a byte, slot `k` is entered after `k` holds, by induction on `k`. -/
theorem ticks_inSlot_zero {s : State} {b : Byte} (hl : s.refused = none) (hread : readFrm s s.bidx.toNat = some b) {k : Nat}
    (hk : k ≤ 17) : ticks (500 * k) (s.inSlot b 0 500#16) = .next (s.inSlot b k 500#16) := by
  induction k with
  | zero => rfl
  | succ k ih => rw [Nat.mul_succ, ticks_add, ih (by omega), andThen_next, ticks_inSlot_of_lt hl hread (by omega)]

/-- From slot 0 of a byte, 9000 ticks drive its 18 slots and make the choice of R124. -/
theorem ticks_byte {s : State} {b : Byte} (hl : s.refused = none) (hread : readFrm s s.bidx.toNat = some b) :
    ticks 9000 (s.inSlot b 0 500#16) = endOfByte ctx (s.afterSlot b 17) := by
  rw [show 9000 = 500 * 17 + 500 from rfl, ticks_add, ticks_inSlot_zero hl hread le_rfl, andThen_next, ticks_inSlot_last hl]

/-- Settles O38: both drive the 18 slots and leave the same state, but for the result that BYTE_SERIALIZE returns. -/
theorem ticksRefineByteSerialize : Obligations.TicksRefineByteSerialize := by
  intro s s0 hl hb henter
  have hread := readFrm_of_lt (s := s) hb
  obtain rfl : s.inSlot s.frm[s.bidx.toNat] 0 500#16 = s0 :=
    Host.Outcome.next.inj ((enterSlot_zero s _).symm.trans henter)
  have hexec : exec .byteSerialize (s.inSlot s.frm[s.bidx.toNat] 0 500#16) = byteSerialize ctx (s.inSlot _ 0 500#16) :=
    whenLive_of_live hl
  rw [ticks_byte hl hread, hexec, byteSerialize_eq (s := s.inSlot _ 0 500#16) hread, andThen_next, State.afterSlot_last,
    State.afterSlot_last]
  rfl

end Sys2Proof.Machine
end

section
/-! PROOFS. The payload encoder: its bytes as numbers, what its operations write, and what a receiver reads back (R140 to
R152). -/

namespace Sys2Proof.Machine

/-! ## The legal operands (R142, R150) -/

theorem tempLegal_iff {t : BitVec 11} : tempLegal t = true ↔ magnitude t < 1000 :=
  ⟨magnitude_lt, decide_eq_true⟩

theorem tempLegal_eq_false_iff {t : BitVec 11} : tempLegal t = false ↔ 1000 ≤ magnitude t :=
  decide_eq_false_iff_not.trans Nat.not_lt

theorem humLegal_iff {h : BitVec 7} : humLegal h = true ↔ humValue h < 100 :=
  ⟨humValue_lt, decide_eq_true⟩

theorem humLegal_eq_false_iff {h : BitVec 7} : humLegal h = false ↔ 100 ≤ humValue h :=
  decide_eq_false_iff_not.trans Nat.not_lt

/-! ## The bytes of the payload as numbers -/

theorem tempDigits_toNat (t : BitVec 11) : (tempDigits t).toNat = 16 * (magnitude t / 10 % 10) + magnitude t % 10 :=
  bcdPair_toNat (by omega) (by omega)

theorem humDigits_toNat {h : BitVec 7} (hl : humValue h < 100) :
    (humDigits h).toNat = 16 * (humValue h / 10) + humValue h % 10 :=
  bcdPair_toNat (by omega) (by omega)

/-- The two markers of this hardware (R146). -/
theorem signMarker_ctx_toNat (t : BitVec 11) : (signMarker ctx t).toNat = if tempValue t < 0 then 4 else 12 := by
  unfold signMarker
  split_ifs <;> rfl

theorem tempSign_ctx_toNat {t : BitVec 11} (h : magnitude t < 1000) :
    (tempSign ctx t).toNat = 16 * (if tempValue t < 0 then 4 else 12) + magnitude t / 100 := by
  rw [tempSign_toNat h, signMarker_ctx_toNat]

/-- The wire channel above the random id: the two fields do not overlap (R143). -/
theorem identityByte_toNat (wire : BitVec 3) (rid : BitVec 5) :
    (identityByte wire rid).toNat = 32 * wire.toNat + rid.toNat := by
  have hor : 32 * wire.toNat ||| rid.toNat = 32 * wire.toNat + rid.toNat :=
    (Nat.two_pow_add_eq_or_of_lt rid.isLt wire.toNat).symm
  rw [identityByte, BitVec.toNat_or, BitVec.toNat_shiftLeft, Nat.shiftLeft_eq, BitVec.toNat_setWidth,
    BitVec.toNat_setWidth, Nat.mod_eq_of_lt (a := rid.toNat) (by omega), ← hor]
  congr 1
  omega

/-- The identity byte of a legal channel as a number (R142, R143). -/
theorem identityByte_wire_toNat {n : Nat} (hn : n ≤ 5) (rid : BitVec 5) :
    (identityByte (BitVec.ofNat 3 (if n ≤ 3 then n else n + 1)) rid).toNat =
      32 * (if n ≤ 3 then n else n + 1) + rid.toNat := by
  rw [identityByte_toNat, BitVec.toNat_ofNat, Nat.mod_eq_of_lt]
  split_ifs <;> omega

theorem batteryByte_ctx_toNat (batt : Bool) : (batteryByte ctx batt).toNat = if batt then 0xCE else 0x0E := by
  cases batt <;> rfl

/-! ## CHANNEL_REMAP (R142) -/

/-- The wire channel of a legal channel as a number: one more above 3. -/
theorem channelRemap_ctx_of_legal {ch : BitVec 3} (h1 : 1 ≤ ch.toNat) (h5 : ch.toNat ≤ 5) :
    channelRemap ctx ch = .next (BitVec.ofNat 3 (if ch.toNat ≤ 3 then ch.toNat else ch.toNat + 1)) := by
  rw [channelRemap_ctx, if_pos ⟨h1, h5⟩]
  split_ifs
  · rw [BitVec.ofNat_toNat, BitVec.setWidth_eq]
  · rw [BitVec.ofNat_add, BitVec.ofNat_toNat, BitVec.setWidth_eq]

theorem channelRemap_ctx_of_illegal {ch : BitVec 3} (h : ch.toNat = 0 ∨ 6 ≤ ch.toNat) :
    channelRemap ctx ch = .refused .chanRange := by
  rw [channelRemap_ctx, if_neg (by omega)]

theorem exec_channelRemap_of_live (ch : BitVec 3) {s : State} (hl : s.refused = none) :
    exec (.channelRemap ch) s = andThen (channelRemap ctx ch) fun wire => .next (s.setResult (.channel wire)) :=
  whenLive_of_live hl

/-- Settles O51: the step of a live state on the two answers of CHANNEL_REMAP. -/
theorem channelRemapReturnsTheWireChannel : Obligations.ChannelRemapReturnsTheWireChannel := by
  intro s ch hl
  rw [exec_channelRemap_of_live ch hl]
  constructor
  · intro h1 h5
    rw [channelRemap_ctx_of_legal h1 h5, andThen_next]
    rfl
  · intro h
    rw [channelRemap_ctx_of_illegal h, andThen_refused]

/-! ## TEMP_ENCODE and HUM_ENCODE (R147, R148) -/

theorem exec_tempEncode_of_live (temp : BitVec 11) {s : State} (hl : s.refused = none) :
    exec (.tempEncode temp) s = if tempLegal temp = false then .refused .tempRange else .next (tempEncode ctx temp s) :=
  whenLive_of_live hl

theorem exec_humEncode_of_live (hum : BitVec 7) {s : State} (hl : s.refused = none) :
    exec (.humEncode hum) s = if humLegal hum = false then .refused .humRange else .next (humEncode hum s) :=
  whenLive_of_live hl

/-- Settles O52: RAW after the two writes of TEMP_ENCODE, cell by cell. -/
theorem tempEncodeWritesDigitsAndSign : Obligations.TempEncodeWritesDigitsAndSign := by
  intro s temp hl m
  rw [exec_tempEncode_of_live temp hl]
  constructor
  · intro hm
    rw [if_neg (by simp [tempLegal_iff.mpr hm])]
    refine ⟨(s.raw.set 4 (tempDigits temp)).set 5 (tempSign ctx temp), rfl, ?_, ?_, ?_⟩
    · intro i h4 h5
      exact (Vector.getElem_set_ne _ _ h5.symm).trans (Vector.getElem_set_ne _ _ h4.symm)
    · rw [Vector.getElem_set_ne _ _ (by decide), Vector.getElem_set_self]
      exact tempDigits_toNat temp
    · rw [Vector.getElem_set_self]
      exact tempSign_ctx_toNat hm
  · intro hm
    rw [if_pos (tempLegal_eq_false_iff.mpr hm)]

/-- Settles O53: RAW after the write of HUM_ENCODE. -/
theorem humEncodeWritesItsDigits : Obligations.HumEncodeWritesItsDigits := by
  intro s hum hl
  rw [exec_humEncode_of_live hum hl]
  constructor
  · intro hh
    rw [if_neg (by simp [humLegal_iff.mpr hh])]
    refine ⟨s.raw.set 6 (humDigits hum), rfl, ?_, ?_⟩
    · intro i h6
      exact Vector.getElem_set_ne _ _ h6.symm
    · rw [Vector.getElem_set_self]
      exact humDigits_toNat hh
  · intro hh
    rw [if_pos (humLegal_eq_false_iff.mpr hh)]

/-! ## PAYLOAD_ENCODE (R151) -/

section PayloadEncode
variable {c : Config} {temp : BitVec 11} {hum : BitVec 7} {batt : Bool} {s : State}

/-- The temperature's range is tested first (R150). -/
theorem payloadEncode_of_temp_illegal (ht : tempLegal temp = false) :
    payloadEncode c temp hum batt s = .refused .tempRange := if_pos ht

theorem payloadEncode_of_hum_illegal (ht : tempLegal temp = true) (hh : humLegal hum = false) :
    payloadEncode c temp hum batt s = .refused .humRange := by
  rw [payloadEncode, if_neg (by simp [ht]), if_pos hh]

theorem payloadEncode_of_channel_refused {r : Refusal} (ht : tempLegal temp = true) (hh : humLegal hum = true)
    (hc : channelRemap c s.cfgChan = .refused r) : payloadEncode c temp hum batt s = .refused r := by
  rw [payloadEncode, if_neg (by simp [ht]), if_neg (by simp [hh]), hc, andThen_refused]

/-- On a channel with a wire channel and legal operands, RAW holds the eight bytes of R140. -/
theorem payloadEncode_of_legal {wire : BitVec 3} (ht : tempLegal temp = true) (hh : humLegal hum = true)
    (hc : channelRemap c s.cfgChan = .next wire) :
    payloadEncode c temp hum batt s = .next (s.setRaw #v[c.header, identityByte wire s.cfgRid, batteryByte c batt, 0#8,
      tempDigits temp, tempSign c temp, humDigits hum, c.comfort]) := by
  obtain ⟨t, hpay⟩ : ∃ t, payloadEncode c temp hum batt s = .next t := by
    rw [payloadEncode, if_neg (by simp [ht]), if_neg (by simp [hh]), hc]
    exact ⟨_, rfl⟩
  obtain ⟨-, -, wire', hwire, rfl⟩ := payloadEncode_eq_next hpay
  obtain rfl : wire = wire' := Host.Outcome.next.inj (hc.symm.trans hwire)
  exact hpay

end PayloadEncode

theorem exec_payloadEncode_of_live (temp : BitVec 11) (hum : BitVec 7) (batt : Bool) {s : State} (hl : s.refused = none) :
    exec (.payloadEncode temp hum batt) s = payloadEncode ctx temp hum batt s := whenLive_of_live hl

/-- Settles O54: the eight bytes as numbers, and the three refusals in their order. -/
theorem payloadEncodeWritesTheEightBytes : Obligations.PayloadEncodeWritesTheEightBytes := by
  intro s temp hum batt hl m
  rw [exec_payloadEncode_of_live temp hum batt hl]
  refine ⟨?_, ?_, ?_, ?_⟩
  · intro h1 h5 hm hh
    have hwire := channelRemap_ctx_of_legal h1 h5
    exact ⟨_, payloadEncode_of_legal (tempLegal_iff.mpr hm) (humLegal_iff.mpr hh) hwire, rfl,
      identityByte_wire_toNat h5 s.cfgRid, batteryByte_ctx_toNat batt, rfl, tempDigits_toNat temp, tempSign_ctx_toNat hm,
      humDigits_toNat hh, rfl⟩
  · intro hm
    exact payloadEncode_of_temp_illegal (tempLegal_eq_false_iff.mpr hm)
  · intro hm hh
    exact payloadEncode_of_hum_illegal (tempLegal_iff.mpr hm) (humLegal_eq_false_iff.mpr hh)
  · intro hm hh hc
    exact payloadEncode_of_channel_refused (tempLegal_iff.mpr hm) (humLegal_iff.mpr hh) (channelRemap_ctx_of_illegal hc)

/-! ## The receiver (R152) -/

/-- Bit 7 of the sign byte tells the two markers apart: it is set exactly on a non-negative temperature (R146). -/
theorem tempSign_ctx_getLsbD_seven {t : BitVec 11} (h : magnitude t < 1000) :
    (tempSign ctx t).getLsbD 7 = decide (0 ≤ tempValue t) := by
  have hsign := tempSign_ctx_toNat h
  have hbit : (tempSign ctx t).getLsbD 7 = decide (2 ^ 7 ≤ (tempSign ctx t).toNat) :=
    BitVec.msb_eq_decide (tempSign ctx t)
  rw [hbit, decide_eq_decide]
  split_ifs at hsign <;> omega

/-- The three digits of a magnitude below 1000 make it up. -/
theorem magnitude_of_nibbles {t : BitVec 11} (h : magnitude t < 1000) :
    100 * ((tempSign ctx t).toNat % 16) + 10 * ((tempDigits t).toNat / 16) + (tempDigits t).toNat % 16 = magnitude t := by
  have hdigits := tempDigits_toNat t
  have hsign := tempSign_ctx_toNat h
  have hhundreds : magnitude t / 10 / 10 = magnitude t / 100 := Nat.div_div_eq_div_mul _ 10 10
  omega

/-- Settles O55: a temperature is its sign times its magnitude, and the nibbles hold both; HUM is its two digits. -/
theorem receiverRecoversTheReading : Obligations.ReceiverRecoversTheReading := by
  constructor
  · intro temp ht
    have hm := magnitude_lt ht
    have hvalue : tempValue temp = (if 0 ≤ tempValue temp then 1 else -1) * (magnitude temp : Int) := by
      unfold magnitude
      split_ifs <;> omega
    simpa only [magnitude_of_nibbles hm, tempSign_ctx_getLsbD_seven hm, decide_eq_true_eq] using hvalue
  · intro hum hh
    have hlt := humValue_lt hh
    have hdigits := humDigits_toNat hlt
    omega

end Sys2Proof.Machine
end

section
/-! PROOFS. SEQ_TICK: the ticks left of a sound state run out, and what a tick does while idle, within a segment, and at
the end of a slot and of a byte (R112, R121, R124, R128, R165 to R168). -/

namespace Sys2Proof.Machine

/-! ## The ticks left (R128, R168) -/

/-- A sound state has at most the 360000 ticks of a whole SEND left (R128). -/
theorem ticksLeft_le {s : State} (hi : Inv s) : ticksLeft s ≤ 360000 := by
  cases hp : s.phase with
  | idle =>
    rw [ticksLeft_of_idle hp]
    omega
  | slot =>
    have hlen : s.flen.toNat = 10 := by rw [hi.busyLength (by simp [hp])]; rfl
    have hhold := (hi.slotSound hp).holding.2
    rw [ticksLeft_of_slot hp, hlen]
    omega
  | gap =>
    obtain ⟨-, -, hhold⟩ := hi.gapSound hp
    rw [ticksLeft_of_gap hp]
    omega

/-- The ticks left of a sound state lead to an idle one with the line low: they are the ticks that a poll of BUSY lets
pass. -/
theorem ticks_ticksLeft {s : State} (hi : Inv s) :
    ∃ t, ticks (ticksLeft s) s = .next t ∧ t.phase = .idle ∧ t.line = false ∧ t.raw = s.raw := by
  obtain ⟨t, hpoll, hidle, hline, hraw⟩ := pollBusy_ticksLeft (taken := 0) hi le_rfl
  obtain ⟨k, hk, hticks, -⟩ := pollBusy_eq_next hpoll
  obtain rfl : ticksLeft s = k := Nat.add_left_cancel hk
  exact ⟨t, hticks, hidle, hline, hraw⟩

theorem exec_seqTick_of_live {s : State} (hl : s.refused = none) : exec .seqTick s = seqTick ctx s :=
  whenLive_of_live hl

/-- Settles O49: a tick of a sound busy state completes with one tick less left, and the ticks left end idle. -/
theorem everyTickTakesOneOffTheTicksLeft : Obligations.EveryTickTakesOneOffTheTicksLeft := by
  refine ⟨fun s hi hbusy => ?_, fun s hi => ticks_ticksLeft hi⟩
  obtain ⟨t, htick, hleft⟩ := seqTick_ticksLeft hi hbusy
  exact ⟨t, (exec_seqTick_of_live hi.live).trans htick, hleft, ticksLeft_le hi⟩

/-! ## While idle, and while the hold of a segment lasts (R165, R167) -/

theorem seqTick_of_idle {c : Config} {s : State} (hp : s.phase = .idle) : seqTick c s = .next s := by
  rw [seqTick, hp]

theorem ticks_of_idle (n : Nat) {s : State} (hl : s.refused = none) (hp : s.phase = .idle) : ticks n s = .next s := by
  induction n with
  | zero => rfl
  | succ n ih => rw [ticks, onTick_of_live hl, seqTick_of_idle hp, andThen_next, ih]

/-- Settles O42: SEQ_TICK answers its own state, and so does any number of ticks, by induction on it. -/
theorem ticksWhileIdleChangeNothing : Obligations.TicksWhileIdleChangeNothing := by
  intro s n hl hp
  exact ⟨(exec_seqTick_of_live hl).trans (seqTick_of_idle hp), ticks_of_idle n hl hp⟩

/-- Settles O43: REM above 1 does not reach 0. -/
theorem ticksHoldTheSegment : Obligations.TicksHoldTheSegment := by
  intro s hl hbusy hr
  have hrem : BitVec.ofNat 16 (s.rem.toNat - 1) = s.rem - 1#16 := by bv_omega
  rw [exec_seqTick_of_live hl, seqTick_of_hold hbusy hr, hrem]
  rfl

/-! ## The end of a slot (R121, R165, R166) -/

theorem exitSlot_of_start {s : State} (h : s.slot.toNat < 2) : exitSlot s = s := if_neg (by omega)

theorem exitSlot_of_data {s : State} (h : 2 ≤ s.slot.toNat) :
    exitSlot s = s.setW (nextWorking (s.slot.toNat - 2) s.w) := if_pos h

/-- The tick that ends a slot: the exit update, then the next slot of the byte, or what follows the byte (R165). -/
theorem exec_seqTick_of_slot_end {s : State} (hl : s.refused = none) (hp : s.phase = .slot) (hr : s.rem = 1#16) :
    exec .seqTick s =
      if s.slot.toNat < 17 then enterSlot ctx (s.slot + 1#5) (exitSlot (s.setRem 0#16))
      else endOfByte ctx (exitSlot (s.setRem 0#16)) := by
  have hslot : (exitSlot (s.setRem 0#16)).slot = s.slot := (exitSlot_position _).1
  rw [exec_seqTick_of_live hl, seqTick_of_slot_end hp hr]
  simp only [endOfSlot, hslot]

/-- The tick that ends a data slot below 17 enters the next one, with the working value and its bit 0 on the line. -/
theorem exec_seqTick_of_dataSlot_end {s : State} (hl : s.refused = none) (hp : s.phase = .slot) (hr : s.rem = 1#16)
    (h2 : 2 ≤ s.slot.toNat) (h17 : s.slot.toNat < 17) :
    exec .seqTick s = .next { s with
      slot := s.slot + 1, rem := 500, w := nextWorking s.slot.toNat s.w
      line := (nextWorking s.slot.toNat s.w).getLsbD 0 } := by
  have hlater (j : Nat) (hj : j ≤ 2) : s.slot + 1#5 ≠ BitVec.ofNat 5 j := by bv_omega
  have hparity : nextWorking (s.slot.toNat - 2) s.w = nextWorking s.slot.toNat s.w := by
    rw [nextWorking, nextWorking, show (s.slot.toNat - 2) % 2 = s.slot.toNat % 2 by omega]
  rw [exec_seqTick_of_slot_end hl hp hr, if_pos h17, exitSlot_of_data (s := s.setRem 0#16) h2,
    enterSlot_of_ne_two (hlater 2 le_rfl), holdTicks_halfBit, if_neg (hlater 0 (by decide)),
    if_neg (hlater 1 (by decide)), State.setRem_slot, State.setRem_w, hparity, ← hp]
  rfl

theorem nextWorking_of_even {j : Nat} (h : j % 2 = 0) (w : Byte) : nextWorking j w = ~~~w := if_neg (by omega)

theorem nextWorking_of_odd {j : Nat} (h : j % 2 = 1) (w : Byte) : nextWorking j w = ~~~w >>> 1 := if_pos h

/-- Settles O44: the two start slots have no exit update and slot 2 loads W; a data slot goes by its parity. -/
theorem tickEndingASlotEntersTheNext : Obligations.TickEndingASlotEntersTheNext := by
  intro s hl hp hr
  refine ⟨fun h0 => ?_, fun b h1 hread => ?_, fun h2 h17 heven => ?_, fun h2 h17 hodd => ?_⟩
  · rw [exec_seqTick_of_slot_end hl hp hr, exitSlot_of_start (s := s.setRem 0#16) (by simp [h0]), h0,
      if_pos (by decide), enterSlot_of_ne_two (by decide), holdTicks_halfBit, ← hp]
    rfl
  · have hb : s.bidx.toNat < 10 := readFrm_isSome.mp (Option.isSome_of_eq_some hread)
    obtain rfl : s.frm[s.bidx.toNat] = b := Option.some.inj ((readFrm_of_lt hb).symm.trans hread)
    rw [exec_seqTick_of_slot_end hl hp hr, exitSlot_of_start (s := s.setRem 0#16) (by simp [h1]), h1,
      if_pos (by decide), enterSlot_of_lt (s := s.setRem 0#16) hb, holdTicks_halfBit, ← hp]
    rfl
  · rw [exec_seqTick_of_dataSlot_end hl hp hr h2 h17, nextWorking_of_even heven, BitVec.getLsbD_not]
    simp
  · rw [exec_seqTick_of_dataSlot_end hl hp hr h2 h17, nextWorking_of_odd hodd, BitVec.getLsbD_ushiftRight,
      BitVec.getLsbD_not]
    simp

/-! ## The end of a byte (R112, R124) -/

theorem endOfByte_of_lt {c : Config} {s : State} (h : s.bidx.toNat + 1 < s.flen.toNat) :
    endOfByte c s = enterSlot c 0#5 (s.setBidx (s.bidx + 1#4)) := if_pos h

theorem endOfByte_of_last {s : State} (h : s.flen.toNat ≤ s.bidx.toNat + 1) :
    endOfByte ctx s = .next (s.startGap 30000#16) := by
  rw [endOfByte, if_neg (by omega), holdTicks_gap]

/-- Settles O45: slot 17 is an odd data slot, and BIDX and FLEN decide what follows it. -/
theorem tickEndingAByteEntersTheNextOrTheGap : Obligations.TickEndingAByteEntersTheNextOrTheGap := by
  intro s hl hp hr h17
  have htick : exec .seqTick s = endOfByte ctx ((s.setRem 0#16).setW (~~~s.w >>> 1)) := by
    rw [exec_seqTick_of_slot_end hl hp hr, exitSlot_of_data (s := s.setRem 0#16) (by simp [h17]), State.setRem_slot,
      State.setRem_w, h17, if_neg (by decide), nextWorking_of_odd (by decide)]
  rw [htick]
  constructor
  · intro hmore
    rw [endOfByte_of_lt (s := (s.setRem 0#16).setW _) hmore, enterSlot_of_ne_two (by decide), holdTicks_halfBit, ← hp]
    rfl
  · intro hlast
    rw [endOfByte_of_last (s := (s.setRem 0#16).setW _) hlast]
    rfl

end Sys2Proof.Machine
end

section
/-! PROOFS. A step runs the command of its edge, and what each command does (R160 to R164, R180 to R182). -/

namespace Sys2Proof.Machine

/-! ## The step of an edge with a command (R160, R180, R187) -/

/-- Settles O7: the step acts on the coming edge, and a word that decodes runs its operation, after the tick of the edge
if there is one. -/
theorem stepRunsTheDecodedCommand : Obligations.StepRunsTheDecodedCommand := by
  intro s w i es hl hd
  have hcmd : onCommand w = exec i := funext fun t => onCommand_of_decode t hd
  have hword : step (presentCommand s w) = exec i s :=
    (step_of_cons (s := presentCommand s w) hl rfl).trans (onCommand_of_decode s hd)
  refine ⟨?_, ?_, ?_, ?_⟩
  · rw [step_of_cons (s := { s with inputs := commandEdge w :: es }) hl rfl, onEdge_commandEdge, hcmd]
    rfl
  · rw [step_of_cons (s := { s with inputs := tickCommandEdge w :: es }) hl rfl, onEdge_tickCommandEdge, hcmd]
    rfl
  · exact step_tickEdge s es
  · rwa [State.withFetchWord, tableWord_toNat]

theorem onCommand_of_reservedOp {w : Word} (s : State) (h : decode w = .error .reservedOp) :
    onCommand w s = .next (raiseCmdError .reservedOp s) := by
  rw [onCommand, h]

theorem onCommand_of_reservedBits {w : Word} (s : State) (h : decode w = .error .reservedBits) :
    onCommand w s = .next (raiseCmdError .reservedBits s) := by
  rw [onCommand, h]

/-- Settles O10: the step is the word's, and each of the two decode results is its command error. -/
theorem reservedWordsRaiseTheirCause : Obligations.ReservedWordsRaiseTheirCause := by
  intro s w es hl
  have hstep : step { s with inputs := commandEdge w :: es } = onCommand w (s.setInputs es) :=
    step_of_cons (s := { s with inputs := commandEdge w :: es }) hl rfl
  rw [hstep]
  exact ⟨fun hop => onCommand_of_reservedOp _ (decode_eq_reservedOp_iff.mpr hop), onCommand_of_reservedBits _⟩

/-! ## NOP and CLRERR (R161, R164) -/

theorem exec_nop_of_live {s : State} (hl : s.refused = none) : exec .nop s = .next s := whenLive_of_live hl

/-- Settles O20: NOP answers its state, so the tick after it counts as usual; a low bit is a reserved bit of OP 0. -/
theorem nopChangesNothing : Obligations.NopChangesNothing := by
  refine ⟨fun s hl => exec_nop_of_live hl, fun s hl hbusy hr => ?_, decode_of_encode rfl, fun w s hop hlow => ?_⟩
  · rw [exec_nop_of_live hl, andThen_next, exec_seqTick_of_live hl, seqTick_of_hold hbusy (by simp [hr]), hr]
    rfl
  · have hd : decode w = .error .reservedBits := decode_eq_reservedBits_iff.mpr (.inl ⟨.inl hop, hlow⟩)
    exact ⟨hd, onCommand_of_reservedBits s hd⟩

theorem exec_clrerr_of_live {s : State} (hl : s.refused = none) : exec .clrerr s = .next (clearCmdError s) :=
  whenLive_of_live hl

/-- Settles O24: the clearing of R164, and that it writes what a state without an error holds already. -/
theorem clrerrClearsTheError : Obligations.ClrerrClearsTheError := by
  refine fun s hl => ⟨exec_clrerr_of_live hl, fun herr hcause => ?_⟩
  rw [exec_clrerr_of_live hl, clearCmdError_eq, ← herr, ← hcause]

/-! ## CONFIG (R162) -/

theorem chanLegal_iff {ch : BitVec 3} : chanLegal ch = true ↔ 1 ≤ ch.toNat ∧ ch.toNat ≤ 5 := decide_eq_true_iff

theorem chanLegal_eq_false_iff {ch : BitVec 3} : chanLegal ch = false ↔ ch.toNat = 0 ∨ 6 ≤ ch.toNat := by
  rw [← Bool.not_eq_true, chanLegal_iff]
  omega

theorem not_busy_of_idle {s : State} (hp : s.phase = .idle) : ¬busy s = true := by simp [busy, hp]

/-- CONFIG while idle: the range of the channel decides (R162). -/
theorem exec_config_of_idle (chan : BitVec 3) (rid : BitVec 5) {s : State} (hl : s.refused = none)
    (hp : s.phase = .idle) :
    exec (.config chan rid) s = if chanLegal chan = false then .refused .chanRange else .next (s.setCfg chan rid) :=
  (whenLive_of_live hl).trans (if_neg (not_busy_of_idle hp))

/-- Settles O21: the word as a number, the busy error, and while idle the two sides of the channel's range. -/
theorem configLoadsTheIdentityWhileIdle : Obligations.ConfigLoadsTheIdentityWhileIdle := by
  intro s chan rid hl
  refine ⟨?_, fun hp h1 h5 => ?_, fun hbusy => execConfig_of_busy chan rid hl hbusy, fun hp hout => ?_,
    fun t hp ht => ?_⟩
  · have hword := encode_config_iff.mp (rfl : encode (.config chan rid) = some _)
    rw [encode, Option.map_some, hword, Nat.mul_comm]
  · rw [exec_config_of_idle chan rid hl hp, if_neg (by simp [chanLegal_iff.mpr ⟨h1, h5⟩])]
    rfl
  · rw [exec_config_of_idle chan rid hl hp, if_pos (chanLegal_eq_false_iff.mpr (by omega))]
  · rw [exec_config_of_idle 2 5 hl hp, if_neg (by decide)] at ht
    cases ht
    exact ⟨BitVec.eq_of_toNat_eq (cfgPort_toNat _), rfl⟩

/-! ## SEND (R163) -/

section Send
variable (temp : BitVec 11) (hum : BitVec 7) (batt : Bool) {s : State}

theorem exec_send_of_unconfigured (hl : s.refused = none) (hp : s.phase = .idle) (hcfg : s.cfgValid = false) :
    exec (.send temp hum batt) s = .next (raiseCmdError .notConfigured s) :=
  (whenLive_of_live hl).trans ((if_neg (not_busy_of_idle hp)).trans (if_pos hcfg))

/-- SEND while idle and configured: the payload, and repetition 0 (R163). -/
theorem exec_send_of_configured (hl : s.refused = none) (hp : s.phase = .idle) (hcfg : s.cfgValid = true) :
    exec (.send temp hum batt) s = andThen (payloadEncode ctx temp hum batt s) (repeatStart ctx 0#2) := by
  have hconfigured : ¬s.cfgValid = false := by simp [hcfg]
  exact (whenLive_of_live hl).trans ((if_neg (not_busy_of_idle hp)).trans (if_neg hconfigured))

end Send

/-- Settles O23: the two command errors in their order, then the three refusals of PAYLOAD_ENCODE in theirs. -/
theorem sendIsTurnedAwayInRuleOrder : Obligations.SendIsTurnedAwayInRuleOrder := by
  intro s temp hum batt hl
  refine ⟨fun hbusy => execSend_of_busy temp hum batt hl hbusy,
    fun hp hcfg => exec_send_of_unconfigured temp hum batt hl hp hcfg, fun hp hcfg ht => ?_, fun hp hcfg ht hh => ?_,
    fun hp hcfg ht hh hchan => ?_⟩
  · rw [exec_send_of_configured temp hum batt hl hp hcfg, payloadEncode_of_temp_illegal (tempLegal_eq_false_iff.mpr ht),
      andThen_refused]
  · rw [exec_send_of_configured temp hum batt hl hp hcfg,
      payloadEncode_of_hum_illegal (tempLegal_iff.mpr ht) (humLegal_eq_false_iff.mpr hh), andThen_refused]
  · rw [exec_send_of_configured temp hum batt hl hp hcfg, payloadEncode_of_channel_refused (tempLegal_iff.mpr ht)
      (humLegal_iff.mpr hh) (channelRemap_ctx_of_illegal hchan), andThen_refused]

/-- The table of R142 as `P_CHANNEL_MAP` of this hardware. -/
theorem channelRemap_of_mem {ch wire : BitVec 3}
    (h : (ch, wire) ∈ ([(1, 1), (2, 2), (3, 3), (4, 5), (5, 6)] : List (BitVec 3 × BitVec 3))) :
    channelRemap ctx ch = .next wire := by
  simp only [List.mem_cons, Prod.mk.injEq, List.not_mem_nil, or_false] at h
  rcases h with ⟨rfl, rfl⟩ | ⟨rfl, rfl⟩ | ⟨rfl, rfl⟩ | ⟨rfl, rfl⟩ | ⟨rfl, rfl⟩ <;> rfl

/-- The battery byte counts seven bytes, whatever the battery (R144). -/
theorem batteryByte_ctx_count (batt : Bool) : (batteryByte ctx batt).toNat / 2 % 32 = 7 := by
  cases batt <;> rfl

/-- Settles O22: PAYLOAD_ENCODE writes RAW, and REPEAT_START of repetition 0 builds its frame (O34). -/
theorem sendLoadsThePayloadAndStartsTheFirstFrame : Obligations.SendLoadsThePayloadAndStartsTheFirstFrame := by
  intro s temp hum batt wire hl hp hcfg hchan ht hh raw
  have hsend : exec (.send temp hum batt) s = exec (.repeatStart 0#2) (s.setRaw raw) := by
    rw [exec_send_of_configured temp hum batt hl hp hcfg,
      payloadEncode_of_legal (tempLegal_iff.mpr ht) (humLegal_iff.mpr hh) (channelRemap_of_mem hchan), andThen_next]
    exact (whenLive_of_live (s := s.setRaw raw) hl).symm
  rw [hsend]
  exact repeatStartBuildsTheFrameOfItsMarker (s.setRaw raw) 0#2 0x5E#8 hl (by simp) (batteryByte_ctx_count batt)

end Sys2Proof.Machine
end

section
/-! PROOFS. The line of a SEND: the ticks after it drive the segments of its line trace one after another (R124 to R126,
R163, R165, R168). -/

namespace Sys2Proof.Machine

/-! ## Driving a list of segments -/

/-- CTX is at the start of the segment `g`: its level is on the line, and REM holds all of its ticks. -/
structure ShowsSegment (g : Segment) (s : State) : Prop where
  live : s.refused = none
  notIdle : s.phase ≠ .idle
  level : s.line = g.level
  hold : s.rem.toNat = g.ticks

/-- The ticks of the segments `l`, from `s` on, show these segments one after another and lead to the last state. -/
inductive Drives : List Segment → State → State → Prop where
  | nil (s : State) : Drives [] s s
  | cons {g : Segment} {l : List Segment} {s t u : State} (hshow : ShowsSegment g s)
      (hticks : ticks g.ticks s = .next t) (hrest : Drives l t u) : Drives (g :: l) s u

theorem Drives.single {g : Segment} {s t : State} (hshow : ShowsSegment g s) (hticks : ticks g.ticks s = .next t) :
    Drives [g] s t := .cons hshow hticks (.nil t)

theorem Drives.append {l m : List Segment} {s t u : State} (h : Drives l s t) (h' : Drives m t u) :
    Drives (l ++ m) s u := by
  induction h with
  | nil s => exact h'
  | cons hshow hticks _ ih => exact .cons hshow hticks (ih h')

theorem totalTicks_cons (g : Segment) (l : List Segment) : totalTicks (g :: l) = g.ticks + totalTicks l := by
  simp [totalTicks]

/-- A list of segments takes all of their ticks together (R126). -/
theorem Drives.ticks_eq {l : List Segment} {s t : State} (h : Drives l s t) : ticks (totalTicks l) s = .next t := by
  induction h with
  | nil s => rfl
  | cons _ hticks _ ih => rw [totalTicks_cons, ticks_add, hticks, andThen_next, ih]

/-- Within a segment the ticks only count REM down. -/
theorem ShowsSegment.ticks_lt {g : Segment} {s : State} (h : ShowsSegment g s) {j : Nat} (hj : j < g.ticks) :
    ∃ t, ticks j s = .next t ∧ t.line = g.level ∧ t.rem.toNat = g.ticks - j ∧ busy t = true := by
  obtain ⟨hlive, hbusy, hlevel, hhold⟩ := h
  refine ⟨_, ticks_of_hold hlive hbusy (by omega), hlevel, ?_, busy_eq_true.mpr hbusy⟩
  rw [State.setRem_rem, ← hhold]
  bv_omega

/-- After the segments before it and `j` of its own ticks a segment is on the line with the rest of its hold. -/
theorem Drives.within {before after : List Segment} {g : Segment} {s t : State} (h : Drives (before ++ g :: after) s t)
    {j : Nat} (hj : j < g.ticks) :
    ∃ u, ticks (totalTicks before + j) s = .next u ∧ u.line = g.level ∧ u.rem.toNat = g.ticks - j ∧ busy u = true := by
  induction before generalizing s with
  | nil =>
    cases h with
    | cons hshow _ _ => simpa [totalTicks] using hshow.ticks_lt hj
  | cons g' before ih =>
    cases h with
    | cons _ hticks hrest =>
      rw [totalTicks_cons, Nat.add_assoc, ticks_add, hticks, andThen_next]
      exact ih hrest

/-! ## A byte (R125) -/

/-- A byte of FRM, from the entry of its slot 0 on, drives `BT(b)` and then makes the choice of R124. -/
theorem drives_byte {s u t : State} {b : Byte} (hl : s.refused = none) (hread : readFrm s s.bidx.toNat = some b)
    (henter : enterSlot ctx 0#5 s = .next u) (hend : endOfByte ctx (s.afterSlot b 17) = .next t) :
    Drives (byteTrace ctx b) u t := by
  obtain rfl : s.inSlot b 0 500#16 = u := Host.Outcome.next.inj ((enterSlot_zero s b).symm.trans henter)
  have hshow (k : Nat) : ShowsSegment ⟨slotLevel b k, ctx.halfBit⟩ (s.inSlot b k 500#16) :=
    { live := hl, notIdle := by simp [State.inSlot], level := rfl, hold := rfl }
  have hslots (k : Nat) (hk : k ≤ 17) :
      Drives ((List.range k).map fun k => ⟨slotLevel b k, ctx.halfBit⟩) (s.inSlot b 0 500#16)
        (s.inSlot b k 500#16) := by
    induction k with
    | zero => exact .nil _
    | succ k ih =>
      rw [List.range_succ, List.map_append]
      exact (ih (by omega)).append (.single (hshow k) (ticks_inSlot_of_lt hl hread (by omega)))
  rw [byteTrace, List.range_succ, List.map_append]
  exact (hslots 17 le_rfl).append (.single (hshow 17) ((ticks_inSlot_last hl b).trans hend))

/-! ## A frame and its gap (R112, R124) -/

theorem readFrm_of_drop {s : State} {i : Nat} {b : Byte} {bytes : List Byte} (h : s.frm.toList.drop i = b :: bytes) :
    readFrm s i = some b := by
  rw [readFrm, ← Vector.getElem?_toList, ← List.head?_drop, h, List.head?_cons]

/-- `t` is at the start of the gap after the frame that `s` sends (R112). -/
structure StartsGap (s t : State) : Prop where
  phase : t.phase = .gap
  shows : ShowsSegment ⟨false, ctx.gap⟩ t
  rep : t.rep = s.rep
  raw : t.raw = s.raw

/-- The gap after slot 17 of the last byte. -/
theorem afterSlot_startGap {s : State} (hl : s.refused = none) (b : Byte) :
    StartsGap s ((s.afterSlot b 17).startGap 30000#16) where
  phase := rfl
  shows := { live := hl, notIdle := by simp, level := rfl, hold := rfl }
  rep := rfl
  raw := rfl

/-- The bytes of a frame of ten from BIDX on, from the entry of slot 0 on, are driven one after another; then the gap
starts. By induction on the bytes after the one at BIDX. -/
theorem drives_bytes {s u : State} {b : Byte} {bytes : List Byte} (hl : s.refused = none) (hlen : s.flen.toNat = 10)
    (hbytes : s.frm.toList.drop s.bidx.toNat = b :: bytes) (henter : enterSlot ctx 0#5 s = .next u) :
    ∃ t, Drives ((b :: bytes).flatMap (byteTrace ctx)) u t ∧ StartsGap s t := by
  induction bytes generalizing s u b with
  | nil =>
    have hcount : 10 - s.bidx.toNat = 1 := by simpa using congrArg List.length hbytes
    have hend : endOfByte ctx (s.afterSlot b 17) = .next ((s.afterSlot b 17).startGap 30000#16) :=
      endOfByte_of_last (show s.flen.toNat ≤ s.bidx.toNat + 1 by omega)
    rw [List.flatMap_singleton]
    exact ⟨_, drives_byte hl (readFrm_of_drop hbytes) henter hend, afterSlot_startGap hl b⟩
  | cons b' bytes ih =>
    have hcount : 10 - s.bidx.toNat = bytes.length + 2 := by simpa using congrArg List.length hbytes
    have hend : endOfByte ctx (s.afterSlot b 17) = enterSlot ctx 0#5 ((s.afterSlot b 17).setBidx (s.bidx + 1#4)) :=
      endOfByte_of_lt (show s.bidx.toNat + 1 < s.flen.toNat by omega)
    have hnext : (s.bidx + 1#4).toNat = s.bidx.toNat + 1 := by bv_omega
    have hbytes' : s.frm.toList.drop (s.bidx + 1#4).toNat = b' :: bytes := by
      rw [hnext, ← List.tail_drop, hbytes, List.tail_cons]
    have henter' := enterSlot_zero ((s.afterSlot b 17).setBidx (s.bidx + 1#4)) b'
    have hbyte := drives_byte hl (readFrm_of_drop hbytes) henter (hend.trans henter')
    obtain ⟨t, hrest, hphase, hshows, hrep, hraw⟩ := ih (s := (s.afterSlot b 17).setBidx _) hl hlen hbytes' henter'
    exact ⟨t, hbyte.append hrest, hphase, hshows, hrep, hraw⟩

/-- The last of the ticks that a segment has left is the one that ends it; those before it hold it (R165). -/
theorem ticks_of_segment {s : State} (hl : s.refused = none) (hbusy : s.phase ≠ .idle) (hr : 0 < s.rem.toNat) :
    ticks s.rem.toNat s = seqTick ctx (s.setRem 1#16) := by
  obtain ⟨n, hn⟩ : ∃ n, s.rem.toNat = n + 1 := ⟨s.rem.toNat - 1, by omega⟩
  have hone : s.rem - BitVec.ofNat 16 n = 1#16 := by bv_omega
  rw [hn, ticks_add, ticks_of_hold hl hbusy (by omega), andThen_next, hone, ticks,
    onTick_of_live (s := s.setRem 1#16) hl]
  exact andThen_pure _

/-- The gap is driven as one segment, and what follows it runs (R112, R113). -/
theorem StartsGap.drives {s t u : State} (h : StartsGap s t) (hend : endOfGap ctx (t.setRem 0#16) = .next u) :
    Drives [⟨false, ctx.gap⟩] t u := by
  have hticks := ticks_of_segment h.shows.live h.shows.notIdle (by rw [h.shows.hold]; decide)
  rw [h.shows.hold, seqTick_of_gap_end (s := t.setRem 1#16) h.phase rfl] at hticks
  exact .single h.shows (hticks.trans hend)

/-- `F_r` of R125 as the frame of the payload. -/
theorem frameBytes_eq {raw : Vector Byte 8} (m : Byte) (h : countField raw[2] = 7) :
    frameBytes ctx raw m = .next (framedPayload raw m).build.frm.toList := by
  rw [frameBytes, buildFrame_loadFrame m _ h, andThen_next]
  rfl

/-- `s` with the frame of its payload and the marker `m` in FRM, before byte 0 of repetition `r`. `repeatStart_of_seven`
ties it to REPEAT_START. -/
def State.withPayloadFrame (s : State) (r : BitVec 2) (m : Byte) : State :=
  (s.setFrame (framedPayload s.raw m).build.frm 10#6 (payloadCs1 s.raw) (payloadCs2 s.raw)).startRep r

/-- On seven counted bytes REPEAT_START enters slot 0 of byte 0 of the payload's frame (R111). -/
theorem repeatStart_of_seven {r : BitVec 2} {m : Byte} {s : State} (hcount : countField s.raw[2] = 7)
    (hm : markerOf ctx r = some m) : repeatStart ctx r s = enterSlot ctx 0#5 (s.withPayloadFrame r m) := by
  have hbuild : buildFrame ctx (s.setFrm (loadFrame s.raw m s.frm)).frm = .next (framedPayload s.raw m) :=
    buildFrame_loadFrame m s.frm hcount
  rw [repeatStart, hm]
  simp only [frameBuild, hbuild, andThen_next]
  rfl

/-- From REPEAT_START on, the bytes of the repetition's frame are driven, and then its gap starts (R111, R125). -/
theorem drives_frame {r : BitVec 2} {m : Byte} {s u : State} (hl : s.refused = none) (hcount : countField s.raw[2] = 7)
    (hm : markerOf ctx r = some m) (hstart : repeatStart ctx r s = .next u) :
    ∃ bytes t, frameBytes ctx s.raw m = .next bytes ∧ Drives (bytes.flatMap (byteTrace ctx)) u t ∧
      StartsGap (s.startRep r) t := by
  rw [repeatStart_of_seven hcount hm] at hstart
  obtain ⟨t, hdrives, hphase, hshows, hrep, hraw⟩ :=
    drives_bytes (s := s.withPayloadFrame r m) (b := s.raw[0]) hl rfl rfl hstart
  exact ⟨_, t, frameBytes_eq m hcount, hdrives, hphase, hshows, hrep, hraw⟩

/-! ## The repetitions (R113, R125) -/

theorem markerOf_of_drop {c : Config} {r : BitVec 2} {m : Byte} {ms : List Byte}
    (h : c.markers.drop r.toNat = m :: ms) : markerOf c r = some m := by
  rw [markerOf, ← List.head?_drop, h, List.head?_cons]

/-- From the start of a repetition on, the traces of this and the later ones are driven; then CTX is idle with the line
low. By induction on the markers of the later repetitions. -/
theorem drives_repetitions {r : BitVec 2} {m : Byte} {ms : List Byte} {s u : State} (hl : s.refused = none)
    (hcount : countField s.raw[2] = 7) (hms : ctx.markers.drop r.toNat = m :: ms)
    (hstart : repeatStart ctx r s = .next u) :
    ∃ l t, tracesOf ctx s.raw (m :: ms) = .next l ∧ Drives l u t ∧ t.phase = .idle ∧ t.line = false ∧
      t.raw = s.raw := by
  induction ms generalizing r m s u with
  | nil =>
    obtain ⟨bytes, g, hframe, hdrives, hgap⟩ := drives_frame hl hcount (markerOf_of_drop hms) hstart
    have hleft : 3 - r.toNat = 1 := by simpa [ctx] using congrArg List.length hms
    have hlast : g.rep = 2#2 := by rw [hgap.rep, State.startRep_rep]; bv_omega
    have hend := endOfGap_of_last (s := g.setRem 0#16) hlast
    refine ⟨frameTrace ctx bytes, _, ?_, hdrives.append (hgap.drives hend), rfl, hgap.shows.level, hgap.raw⟩
    rw [tracesOf, hframe, andThen_next, tracesOf, andThen_next, List.append_nil]
  | cons m' ms ih =>
    obtain ⟨bytes, g, hframe, hdrives, hgap⟩ := drives_frame hl hcount (markerOf_of_drop hms) hstart
    have hleft : 3 - r.toNat = ms.length + 2 := by simpa [ctx] using congrArg List.length hms
    have hnext : (r + 1#2).toNat = r.toNat + 1 := by bv_omega
    have hms' : ctx.markers.drop (r + 1#2).toNat = m' :: ms := by rw [hnext, ← List.tail_drop, hms, List.tail_cons]
    have hgrep : g.rep = r := hgap.rep
    have hgraw : g.raw = s.raw := hgap.raw
    have hend := endOfGap_of_lt (s := g.setRem 0#16) (show g.rep.toNat < 2 by rw [hgrep]; omega)
    rw [State.setRem_rep, hgrep] at hend
    have hcount' : countField (g.setRem 0#16).raw[2] = 7 := by rwa [State.setRem_raw, hgraw]
    obtain ⟨v, hv⟩ := repeatStart_completes (r := r + 1#2) (s := g.setRem 0#16) (by omega) hcount'.le
    obtain ⟨l, t, htraces, hrest, hidle, hline, hraw⟩ := ih (s := g.setRem 0#16) hgap.shows.live hcount' hms' hv
    rw [State.setRem_raw, hgraw] at htraces hraw
    refine ⟨frameTrace ctx bytes ++ l, t, ?_, ?_, hidle, hline, hraw⟩
    · rw [tracesOf, hframe, andThen_next, htraces, andThen_next]
    · exact (hdrives.append (hgap.drives (hend.trans hv))).append hrest

/-- A SEND of legal operands, idle and configured for a legal channel, drives the line trace of the RAW it loads (R125,
R163). -/
theorem send_drives {temp : BitVec 11} {hum : BitVec 7} (batt : Bool) {s : State} (hl : s.refused = none)
    (hp : s.phase = .idle) (hcfg : s.cfgValid = true) (hchan : chanLegal s.cfgChan = true)
    (ht : tempLegal temp = true) (hh : humLegal hum = true) :
    ∃ s0 l t, exec (.send temp hum batt) s = .next s0 ∧ lineTrace ctx s0.raw = .next l ∧ Drives l s0 t ∧
      t.phase = .idle ∧ t.line = false ∧ t.raw = s0.raw := by
  obtain ⟨u, hpay⟩ := payloadEncode_completes batt ht hh hchan
  have hcount := (payloadEncode_layout hpay).count
  obtain ⟨s0, hstart⟩ := repeatStart_completes (r := 0#2) (by decide) hcount.le
  have hlive : u.refused = none := by
    obtain ⟨-, -, wire, -, rfl⟩ := payloadEncode_eq_next hpay
    exact hl
  obtain ⟨l, t, htraces, hdrives, hend⟩ := drives_repetitions hlive hcount rfl hstart
  refine ⟨s0, l, t, ?_, ?_, hdrives, ?_⟩
  · rw [exec_send_of_configured temp hum batt hl hp hcfg, hpay, andThen_next, hstart]
  · rw [(repeatStart_keepsHostSide hstart).raw]
    exact htraces
  · rwa [(repeatStart_keepsHostSide hstart).raw]

/-- Settles O50: the SEND drives its line trace, and a driven list shows its segments tick by tick. -/
theorem sendDrivesItsLineTrace : Obligations.SendDrivesItsLineTrace := by
  intro s temp hum batt hl hp hcfg hchan ht hh
  obtain ⟨s0, l, t, hsend, htrace, hdrives, hidle, hline, hraw⟩ := send_drives batt hl hp hcfg hchan ht hh
  refine ⟨s0, l, hsend, htrace, ?_, t, hdrives.ticks_eq, busy_eq_false.mpr hidle, hline, hraw⟩
  intro before after g j hsplit hj
  subst hsplit
  exact hdrives.within hj

end Sys2Proof.Machine
end

section
/-! PROOFS. The command error leaves the transmission alone, its first cause stays until it is cleared, and the order of the
events on one edge (R180, R187, R188). -/

namespace Sys2Proof.Machine

/-! ## A command error leaves the transmission alone (R180) -/

/-- A state whose host side is that of `s` takes over the unread cells of `s` after a command error as it takes that error. -/
theorem KeepsHostSide.withUnread_raiseCmdError {s t : State} (h : KeepsHostSide s t) (cause : ErrorCause) :
    t.withUnread (raiseCmdError cause s) = raiseCmdError cause t := by
  simp only [State.withUnread, raiseCmdError_eq, h.cmdErr, h.errCause, h.opResult, h.inputs, h.draws]

/-- A tick that completes does the same after a command error, with the error kept. -/
theorem onTick_raiseCmdError {s t : State} (cause : ErrorCause) (h : onTick s = .next t) :
    onTick (raiseCmdError cause s) = .next (raiseCmdError cause t) := by
  obtain ⟨hl, htick⟩ := onTick_eq_next.mp h
  calc onTick (raiseCmdError cause s)
      = seqTick ctx (s.withUnread (raiseCmdError cause s)) := onTick_of_live (s := raiseCmdError cause s) hl
    _ = .next (t.withUnread (raiseCmdError cause s)) := by rw [seqTick_withUnread, htick, andThen_next]
    _ = .next (raiseCmdError cause t) := by rw [(seqTick_keepsHostSide htick).withUnread_raiseCmdError]

theorem ticks_raiseCmdError {n : Nat} {s t : State} (cause : ErrorCause) (h : ticks n s = .next t) :
    ticks n (raiseCmdError cause s) = .next (raiseCmdError cause t) := by
  induction n generalizing s with
  | zero => cases h; rfl
  | succ n ih =>
    obtain ⟨u, htick, hrest⟩ := andThen_eq_next.mp h
    rw [ticks, onTick_raiseCmdError cause htick, andThen_next, ih hrest]

/-- Settles O11: what the error writes, by the two values of the flag before it; and the ticks carry the error along. -/
theorem commandErrorsLeaveTheTransmissionAlone : Obligations.CommandErrorsLeaveTheTransmissionAlone := by
  refine ⟨fun cause s => ?_, fun cause n s t h => ticks_raiseCmdError cause h⟩
  rw [raiseCmdError_eq]
  cases s.cmdErr <;> rfl

/-! ## The first cause stays until it is cleared (R180, R188) -/

/-- Of the registers on the host's side the start of a transmission writes RAW alone (R163). -/
theorem start_keepsHostSide {temp : BitVec 11} {hum : BitVec 7} {batt : Bool} {s u t : State}
    (hpay : payloadEncode ctx temp hum batt s = .next u) (hrep : repeatStart ctx 0#2 u = .next t) :
    ∃ raw, KeepsHostSide (s.setRaw raw) t := by
  obtain ⟨-, -, wire, -, rfl⟩ := payloadEncode_eq_next hpay
  exact ⟨_, repeatStart_keepsHostSide hrep⟩

/-- A command keeps a pending error and its cause, or it is a CLRERR (R188). -/
theorem CommandEffect.pendingError {w : Word} {s t : State} (h : CommandEffect w s t) (herr : s.cmdErr = true) :
    (t.cmdErr = true ∧ t.errCause = s.errCause) ∨ decode w = .ok .clrerr := by
  cases h with
  | nothing hd => exact .inl ⟨herr, rfl⟩
  | error cause => exact .inl ⟨rfl, raiseCmdError_errCause_of_set herr⟩
  | clear hd => exact .inr hd
  | configure chan rid hd hidle hchan => exact .inl ⟨herr, rfl⟩
  | start temp hum batt u t hd hidle hcfg hpay hrep =>
    obtain ⟨raw, hk⟩ := start_keepsHostSide hpay hrep
    exact .inl ⟨hk.cmdErr.trans herr, hk.errCause⟩

/-- Settles O12: the tick keeps the host's side, and a command keeps the pending error or is a CLRERR. -/
theorem firstErrorCauseStaysUntilCleared : Obligations.FirstErrorCauseStaysUntilCleared := by
  intro s t e es herr hi hr hno h
  obtain ⟨u, hk, rfl | ⟨hv, heffect⟩⟩ := step_command_of_noReset hi hr h
  · exact ⟨hk.cmdErr.trans herr, hk.errCause⟩
  · rcases heffect.pendingError (hk.cmdErr.trans herr) with ⟨hflag, hcause⟩ | hclear
    · exact ⟨hflag, hcause.trans hk.errCause⟩
    · exact absurd hclear (hno hv)

/-! ## The order of the events on one edge (R187) -/

theorem onEdge_of_noReset {e : Edge} (s : State) (hr : e.rst = false) :
    onEdge e s = andThen (if e.usTick then onTick s else .next s)
      fun t => if e.cmdValid then onCommand e.cmdWord t else .next t :=
  if_neg (by simp [hr])

/-- The tick that ends the last gap makes CTX idle (R113). -/
theorem onTick_of_lastGap_end {s : State} (hl : s.refused = none) (hp : s.phase = .gap) (hrep : s.rep = 2#2)
    (hr : s.rem = 1#16) : onTick s = .next (s.setRem 0#16).setIdle := by
  rw [onTick_of_live hl, seqTick_of_gap_end hp hr, endOfGap_of_last (s := s.setRem 0#16) hrep]

/-- A legal SEND while idle and configured is accepted: its payload, then repetition 0 (R163). -/
theorem exec_send_starts {temp : BitVec 11} {hum : BitVec 7} (batt : Bool) {s : State} (hl : s.refused = none)
    (hp : s.phase = .idle) (hcfg : s.cfgValid = true) (hchan : chanLegal s.cfgChan = true)
    (ht : tempLegal temp = true) (hh : humLegal hum = true) :
    ∃ u t, payloadEncode ctx temp hum batt s = .next u ∧ repeatStart ctx 0#2 u = .next t ∧
      exec (.send temp hum batt) s = .next t := by
  obtain ⟨u, hpay⟩ := payloadEncode_completes batt ht hh hchan
  obtain ⟨t, hstart⟩ := repeatStart_completes (r := 0#2) (by decide) (payloadEncode_layout hpay).count.le
  exact ⟨u, t, hpay, hstart, by rw [exec_send_of_configured temp hum batt hl hp hcfg, hpay, andThen_next, hstart]⟩

/-- A NOP after a tick leaves what the tick does (R161). -/
theorem andThen_onTick_nop (s : State) : andThen (onTick s) (exec .nop) = onTick s := by
  cases htick : onTick s with
  | next t =>
    obtain ⟨hl, hseq⟩ := onTick_eq_next.mp htick
    exact exec_nop_of_live ((seqTick_keepsHostSide hseq).refused.trans hl)
  | fault r => rfl
  | refused r => rfl

/-- Settles O8: a step acts on its edge, whose cases are the reset, the tick before the command, a SEND on the idle state
that ends the last gap, and a NOP. -/
theorem resetThenTickThenCommandOnOneEdge : Obligations.ResetThenTickThenCommandOnOneEdge := by
  have hstep (s : State) (e : Edge) (es : List Edge) (hl : s.refused = none) :
      step { s with inputs := e :: es } = onEdge e (s.setInputs es) :=
    step_of_cons (s := { s with inputs := e :: es }) hl rfl
  refine ⟨fun s e es hl hr => ?reset, fun s e es hl hr => (hstep s e es hl).trans (onEdge_of_noReset _ hr),
    fun s w temp hum batt es hl hp hrep hrem hcfg hchan hd ht hh => ?send, fun s es hl => ?nop⟩
  case reset => rw [hstep s e es hl, hstep s rstEdge es hl, onEdge_rst hr, onEdge_rst rfl]
  case send =>
    have htick := onTick_of_lastGap_end (s := s.setInputs es) hl hp hrep hrem
    obtain ⟨u, t, hpay, hstart, hsend⟩ :=
      exec_send_starts batt (s := ((s.setInputs es).setRem 0#16).setIdle) hl rfl hcfg hchan ht hh
    obtain ⟨raw, hk⟩ := start_keepsHostSide hpay hstart
    have hcause := hk.errCause
    have hflag := hk.cmdErr
    obtain ⟨m, f, -, -, rfl⟩ := repeatStart_eq_next hstart
    refine ⟨_, ?_, rfl, rfl, rfl, rfl, holdTicks_halfBit, hflag, hcause⟩
    rw [hstep s _ es hl, onEdge_tickCommandEdge, htick, andThen_next, onCommand_of_decode _ hd, hsend]
  case nop =>
    have hnop : onCommand 0#32 = exec .nop := funext fun t => onCommand_of_decode t (decode_of_encode rfl)
    rw [hstep s _ es hl, hstep s _ es hl, onEdge_tickCommandEdge, onEdge_tickEdge, hnop, andThen_onTick_nop]

end Sys2Proof.Machine
end

section
/-! PROOFS. The reset edge and the state after reset (R35, R200, R201). -/

namespace Sys2Proof.Machine

/-- The status port shows PHASE, the error flag and cause, and CFG_VALID, and nothing else (R23). -/
theorem statusPort_of_idle_unconfigured {s : State} (hp : s.phase = .idle) (herr : s.cmdErr = false)
    (hcause : s.errCause = 0#3) (hcfg : s.cfgValid = false) : statusPort s = 0#8 := by
  simp [statusPort, busy_eq_false.mpr hp, herr, hcause, hcfg]

/-- The first command error since the last clear puts its own cause in place (R180). -/
theorem raiseCmdError_of_noError (cause : ErrorCause) {s : State} (h : s.cmdErr = false) :
    raiseCmdError cause s = { s with cmdErr := true, errCause := causeCode cause } := by
  simp [raiseCmdError_eq, h]

/-- An edge with `rst` = 1 acts by its reset alone: its tick and its command do not (R187, R200). -/
theorem step_of_rst {s : State} {e : Edge} {es : List Edge} (hl : s.refused = none) (hi : s.inputs = e :: es)
    (hr : e.rst = true) : step s = .next (resetEdge (s.setInputs es)) :=
  (step_of_cons hl hi).trans (onEdge_rst hr)

/-- Settles O13: the step answers the reset edge's state, which is idle, so ticks keep it, and unconfigured, so a SEND in it
is the first command error. -/
theorem resetEdgeGivesTheResetValues : Obligations.ResetEdgeGivesTheResetValues := by
  intro s e es hl hi hr
  obtain ⟨hline, hp, herr, hcause, hcfg, hchan, hrid, hrefused, hinputs, -⟩ := resetEdge_values (s.setInputs es)
  have hlive : (resetEdge (s.setInputs es)).refused = none := hrefused.trans hl
  refine ⟨resetEdge (s.setInputs es), step_of_rst hl hi hr, hline, hp, herr, hcause, hcfg, hchan, hrid, hlive, hinputs,
    statusPort_of_idle_unconfigured hp herr hcause hcfg, fun n => ticks_of_idle n hlive hp, fun temp hum batt => ?send⟩
  case send => rw [exec_send_of_unconfigured temp hum batt hlive hp hcfg, raiseCmdError_of_noError _ herr, causeCode]

/-- Settles O14: the registers are those of the state after reset, and the command of its first edge runs in it (R160). -/
theorem stateAfterResetIsIdle : Obligations.StateAfterResetIsIdle := by
  refine ⟨rfl, busy_eq_false.mpr rfl, rfl, rfl, rfl, rfl, rfl, rfl, statusPort_of_idle_unconfigured rfl rfl rfl rfl,
    fun w i hd => ?firstCommand⟩
  case firstCommand => exact (stepRunsTheDecodedCommand State.reset w i [] rfl hd).1

end Sys2Proof.Machine
end

section
/-! PROOFS. The properties of MIX, the example words of the assembler, and the index fault (R53, R82, R93). -/

namespace Sys2Proof.Machine

/-! ## Linear functions of a byte: equality, and the number of values -/

/-- The exclusive OR of the bytes `k i` over the bits `i` below `n` that are set is linear. -/
theorem XorLinear.foldl_xorWhen (k : Nat → Byte) (n : Nat) :
    XorLinear fun b => (List.range n).foldl (fun a i => if b.getLsbD i then a ^^^ k i else a) 0#8 := by
  induction n with
  | zero => exact fun _ _ => BitVec.xor_zero.symm
  | succ n ih =>
    simpa only [List.range_succ, List.foldl_append, List.foldl_cons, List.foldl_nil] using ih.xorWhen .id n (k n)

/-- Linear functions that agree on the single bits are equal. -/
theorem XorLinear.ext {f g : Byte → Byte} (hf : XorLinear f) (hg : XorLinear g)
    (h : ∀ i < 8, f (BitVec.twoPow 8 i) = g (BitVec.twoPow 8 i)) (b : Byte) : f b = g b := by
  rw [hf.eq_foldl, hg.eq_foldl]
  exact List.foldl_ext _ _ _ fun a i hi => by rw [h i (List.mem_range.mp hi)]

/-- A linear function that sends to 0 only 0 and `k` takes one value on two bytes exactly when they are equal or differ
by `k`. -/
theorem XorLinear.eq_iff {f : Byte → Byte} (hf : XorLinear f) {k : Byte} (hker : ∀ b, f b = 0#8 ↔ b = 0#8 ∨ b = k)
    {a b : Byte} : f a = f b ↔ a = b ∨ a = k ^^^ b := by
  rw [← BitVec.xor_eq_zero_iff, ← hf, hker, BitVec.xor_eq_zero_iff, ← BitVec.xor_left_inj b (x := a ^^^ b),
    BitVec.xor_assoc, BitVec.xor_self, BitVec.xor_zero]

/-- A linear function that sends to 0 exactly 0 and one other byte takes every value on two of the 256 bytes, so it takes
128 values. -/
theorem XorLinear.card_image {f : Byte → Byte} (hf : XorLinear f) {k : Byte} (hk : k ≠ 0#8)
    (hker : ∀ b, f b = 0#8 ↔ b = 0#8 ∨ b = k) : (Finset.univ.image f).card = 128 := by
  have hfibre : ∀ c ∈ Finset.univ.image f, (Finset.univ.filter (f · = c)).card = 2 := by
    intro c hc
    obtain ⟨b, -, rfl⟩ := Finset.mem_image.mp hc
    have hpair : Finset.univ.filter (f · = f b) = {b, k ^^^ b} := by
      ext a
      simp [hf.eq_iff hker]
    have hne : b ≠ k ^^^ b := fun h => hk ((BitVec.xor_left_inj b).mp (by rw [← h, BitVec.zero_xor]))
    rw [hpair, Finset.card_pair hne]
  have hsum := Finset.card_eq_sum_card_image f Finset.univ
  rw [Finset.sum_congr rfl hfibre, Finset.sum_const, smul_eq_mul, Finset.card_univ, ← FinEnum.card_eq_fintypeCard,
    FinEnum.card_bitVec] at hsum
  omega

/-! ## MIX (R93; PRESUMED with the body of R91, log entry 3) -/

/-- The first stage of R91: a set bit 7 is cleared by the exclusive OR with 0x95. -/
def clearTopBit (b : Byte) : Byte := if b.getLsbD 7 then b ^^^ 0x95#8 else b

theorem clearTopBit_xorLinear : XorLinear clearTopBit := XorLinear.id.xorWhen .id 7 0x95#8

/-- The bytes below 0x80 that MIX sends to the bits 0 to 6. -/
def unmixImages : List Byte := [0x7E, 0x43, 0x39, 0x72, 0x5B, 0x09, 0x12]

/-- The linear function that sends each of the bits 0 to 6 back to its byte. `unmix_mix` ties it to MIX. -/
def unmix (b : Byte) : Byte :=
  (List.range 8).foldl (fun a i => if b.getLsbD i then a ^^^ unmixImages.getD i 0 else a) 0

theorem unmix_xorLinear : XorLinear unmix := .foldl_xorWhen (unmixImages.getD · 0) 8

theorem mix_xorLinear : XorLinear (mix ctx) := mixBody_xorLinear _ _

/-- After its first stage MIX loses nothing: two linear functions that agree on the single bits. -/
theorem unmix_mix (b : Byte) : unmix (mix ctx b) = clearTopBit b := by
  have hlin : XorLinear fun b => unmix (mix ctx b) := fun a b => by simp only [mix_xorLinear a b, unmix_xorLinear _ _]
  exact hlin.ext clearTopBit_xorLinear (by decide) b

theorem clearTopBit_eq_zero {b : Byte} (h : clearTopBit b = 0#8) : b = 0x00#8 ∨ b = 0x95#8 := by
  rw [clearTopBit] at h
  split at h
  · exact .inr (BitVec.xor_eq_zero_iff.mp h)
  · exact .inl h

theorem mix_eq_zero_iff (b : Byte) : mix ctx b = 0#8 ↔ b = 0x00#8 ∨ b = 0x95#8 := by
  constructor
  · intro h
    exact clearTopBit_eq_zero (by rw [← unmix_mix, h, unmix_xorLinear.map_zero])
  · rintro (rfl | rfl) <;> rfl

/-- The bytes that the numbers below 256 give are all there are. -/
theorem map_range_toFinset (f : Byte → Byte) :
    ((List.range 256).map fun n => f (BitVec.ofNat 8 n)).toFinset = Finset.univ.image f := by
  ext c
  simp only [List.mem_toFinset, List.mem_map, List.mem_range, Finset.mem_image, Finset.mem_univ, true_and]
  constructor
  · rintro ⟨n, -, hn⟩
    exact ⟨_, hn⟩
  · rintro ⟨b, hb⟩
    exact ⟨b.toNat, b.isLt, by rwa [BitVec.ofNat_toNat, BitVec.setWidth_eq]⟩

/-- Settles O31: linearity; the images, bit by bit; bit 7; and the two bytes sent to 0, which give the number of values. -/
theorem mixIsLinearWithTheStatedImages : Obligations.MixIsLinearWithTheStatedImages := by
  refine ⟨mix_xorLinear, ?images, mix_getLsbD_seven, ?values, mix_eq_zero_iff⟩
  case images =>
    have himage : ∀ i ∈ List.range 8, mix ctx (1#8 <<< i) = mixImages.getD i 0 := fun i hi => by
      rw [← BitVec.twoPow_eq]
      exact mix_twoPow i (List.mem_range.mp hi)
    rw [List.map_congr_left himage]
    rfl
  case values => rw [map_range_toFinset, mix_xorLinear.card_image (by decide) mix_eq_zero_iff]

/-! ## The example words (R82) -/

/-- The word of a CONFIG line that the assembler accepts, as a number (R72, R80). -/
theorem assemble_config_eq {ch id : Nat} {w : Word} (hch : ch < 8) (hid : id < 32)
    (hw : w.toNat = 2 ^ 28 + ch * 2 ^ 5 + id) : assemble (.config ch id) = some w := by
  rw [assemble, if_pos ⟨hch, hid⟩, encode_config_iff, BitVec.toNat_ofNat, BitVec.toNat_ofNat]
  omega

/-- The word of a SEND line that the assembler accepts, as a number: the temperature is taken modulo 2048 (R73, R80). -/
theorem assemble_send_eq {temp : Int} {hum : Nat} {batt : Bool} {w : Word} (hlo : -1024 ≤ temp) (hhi : temp ≤ 1023)
    (hhum : hum < 128) (hw : w.toNat = 2 * 2 ^ 28 + batt.toNat * 2 ^ 18 + hum * 2 ^ 11 + (temp % 2 ^ 11).toNat) :
    assemble (.send temp hum batt) = some w := by
  rw [assemble, if_pos ⟨hlo, hhi, hhum⟩, encode_send_iff, BitVec.toNat_ofNat, BitVec.toNat_ofInt, hw,
    Nat.mod_eq_of_lt hhum]
  rfl

/-- Settles O4: the words are those numbers. -/
theorem exampleWordsOfTheSpec : Obligations.ExampleWordsOfTheSpec := by
  have hnop : assemble .nop = some 0x00000000#32 := encode_nop_iff.mpr rfl
  have hclrerr : assemble .clrerr = some 0x30000000#32 := encode_clrerr_iff.mpr rfl
  refine ⟨?_, ?_, ?_, ?_, ?_, ?_, ?_, ?_, ?_, hnop, hclrerr⟩
  iterate 3 exact assemble_config_eq (by decide) (by decide) rfl
  iterate 6 exact assemble_send_eq (by decide) (by decide) (by decide) rfl

/-! ## The index fault (R53, log entry 6) -/

/-- BYTE_SERIALIZE passes through its two start slots, which read no byte and keep BIDX, and faults at slot 2 (R120,
R166). -/
theorem byteSerialize_of_ge {c : Config} {s : State} (h : 10 ≤ s.bidx.toNat) :
    byteSerialize c s = .fault .indexRange := by
  have hslots : byteSlots = 0#5 :: 1#5 :: 2#5 :: byteSlots.drop 3 := rfl
  rw [byteSerialize, hslots, driveSlots, enterSlot_of_ne_two (by decide), andThen_next, driveSlots,
    enterSlot_of_ne_two (by decide), andThen_next, driveSlots, enterSlot_two_of_ge, andThen_fault]
  exact h

/-- There is no marker for a repetition 3 (R110). -/
theorem repeatStart_three (s : State) : repeatStart ctx 3#2 s = .fault .indexRange := rfl

/-- The tick that ends slot 1 enters slot 2, which reads FRM[BIDX] (R166). -/
theorem exec_seqTick_of_slotOne_end_of_ge {s : State} (hl : s.refused = none) (hb : 10 ≤ s.bidx.toNat)
    (hp : s.phase = .slot) (hr : s.rem = 1#16) (h1 : s.slot = 1#5) : exec .seqTick s = .fault .indexRange := by
  rw [exec_seqTick_of_slot_end hl hp hr, exitSlot_of_start (s := s.setRem 0#16) (by simp [h1]), h1,
    if_pos (by decide)]
  exact enterSlot_two_of_ge hb

/-- Settles O41: FRM is read at BIDX when slot 2 is entered, and P_MARKERS at the repetition. -/
theorem indicesOutsideTheArraysFault : Obligations.IndicesOutsideTheArraysFault := by
  intro s hl
  have hserialize : exec .byteSerialize s = byteSerialize ctx s := whenLive_of_live hl
  have hrepeat : exec (.repeatStart 3) s = repeatStart ctx 3 s := whenLive_of_live hl
  exact ⟨fun hb => hserialize.trans (byteSerialize_of_ge hb), fun hb => exec_seqTick_of_slotOne_end_of_ge hl hb,
    hrepeat.trans (repeatStart_three s)⟩

end Sys2Proof.Machine
end
